-- ==== Sys2Proof/Word.lean ====
section
/-! DEFINITION. The words of the GD4120 and the numbers that name its ports, records, buffers and lanes
(spec/00_scope.md sections 3.1 and 3.2). -/

namespace Sys2Proof

/-- One byte as it travels on a host port or on MLINE. -/
abbrev Byte := BitVec 8

/-- A word is 32 bits (00 section 3.1). -/
abbrev Word := BitVec 32

/-- Ports P0 to P3 (00 section 3.2). -/
abbrev Port := Fin 4

/-- Records 0..127 (00 section 3.2). -/
abbrev RecNo := Fin 128

/-- Buffers 0, 1 and 2 of a record's group (00 section 3.2). -/
abbrev Buf := Fin 3

/-- Lanes: 0..3 are L0 to L3 of the ports, 4 is LM (R80). -/
abbrev LaneNo := Fin 5

/-- A set of ports: bit n set means that Pn is in the set (R184). -/
abbrev PortSet := BitVec 4

end Sys2Proof
end

