-- ==== Sys2Proof/Syntax.lean ====
section
/-! DEFINITION. The commands of spec/opcode_table.json, one constructor per row, in the table's order.
A command is one whole step of the part (spec/95): a request taken on a port, a byte or a level on MLINE, an edge on a pin, or
an event of one of the part's own engines. -/

namespace Sys2Proof

/-- The five bytes of a frame header: code, p1, p2, p3 and hcheck, in that order (R186). -/
structure FrameHeader where
  code : Byte
  p1 : Byte
  p2 : Byte
  p3 : Byte
  hcheck : Byte
deriving DecidableEq, Repr

/-- The commands. Where a request kind reads parameter bytes, the command carries those bytes; bytes a kind does not use are
ignored (R159) and stand only in the header of HCHECK_ARRIVAL. -/
inductive Instr where
  /-- POWER_ON: power comes up with these levels on MEMB[3:0]. -/
  | powerOn (memb : PortSet)
  /-- RESET_N: the pin goes low. -/
  | resetN
  /-- RESET_N_RELEASE: the pin returns high. -/
  | resetNRelease
  /-- CLEAR_DONE: the store clear completes. -/
  | clearDone
  /-- CHIP_SELECT_ASSERT on port n. -/
  | chipSelectAssert (n : Port)
  /-- FRAME_DISCARD: port n's chip select is released after these whole bytes (those clocked in since the parser entered the
  state it stands in) and this many bits of a further byte. -/
  | frameDiscard (n : Port) (bytes : List Byte) (partialBits : Nat)
  /-- UNKNOWN_CODE: the header of port n's frame is complete, its hcheck is valid and its code names no kind. -/
  | unknownCode (n : Port) (header : FrameHeader)
  /-- STATUS taken on port n. -/
  | status (n : Port)
  /-- READ WINDOW taken on port n. -/
  | readWindow (n : Port) (offset count : Byte)
  /-- TAKE taken on port n. -/
  | take (n : Port)
  /-- READ RECORD taken on port n. -/
  | readRecord (n : Port) (record image : Byte)
  /-- READ HEADER taken on port n. -/
  | readHeader (n : Port) (image : Byte)
  /-- READ BALLOT taken on port n. -/
  | readBallot (n : Port)
  /-- WRITE WINDOW released on port n with its payload and check byte. -/
  | writeWindow (n : Port) (offset count : Byte) (payload : List Byte) (pcheck : Byte)
  /-- STAGE released on port n. -/
  | stage (n : Port) (record : Byte)
  /-- FETCH released on port n. -/
  | fetch (n : Port) (record : Byte)
  /-- ACKNOWLEDGE released on port n. -/
  | acknowledge (n : Port) (causes : Byte)
  /-- SET ATTENTION released on port n. -/
  | setAttention (n : Port) (enables watermark mask : Byte)
  /-- EDIT RECORD released on port n with its definition and check byte. -/
  | editRecord (n : Port) (record : Byte) (payload : Vector Byte 12) (pcheck : Byte)
  /-- DROP RECORD released on port n. -/
  | dropRecord (n : Port) (record : Byte)
  /-- EDIT HEADER released on port n with its header and check byte. -/
  | editHeader (n : Port) (payload : Vector Byte 16) (pcheck : Byte)
  /-- REVERT SHADOW released on port n. -/
  | revertShadow (n : Port)
  /-- VOTE released on port n. -/
  | vote (n : Port) (item choice : Byte)
  /-- FREEZE released on port n. -/
  | freeze (n : Port)
  /-- PORT RESET released on port n. -/
  | portReset (n : Port)
  /-- WORD_ACCESS: the store arbiter grants one access. -/
  | wordAccess
  /-- STAGE_COMPLETE on lane Ln. -/
  | stageComplete (n : Port)
  /-- FETCH_COMPLETE on lane Ln. -/
  | fetchComplete (n : Port)
  /-- LM_COMPLETE. -/
  | lmComplete
  /-- WAITING_STAGE_START on lane Ln. -/
  | waitingStageStart (n : Port)
  /-- TICK: the Timebase hands a tick. -/
  | tick
  /-- CYCLE_START: the tick count returns to 0. -/
  | cycleStart
  /-- SWITCH: the switch that is pending is applied. -/
  | switch
  /-- SYNCOUT_PULSE_END. -/
  | syncoutPulseEnd
  /-- SYNC_PULSE: a rising edge on SYNCIN. -/
  | syncPulse
  /-- MISSED_PULSE_EVENT: the check at tick SYNC_WIN. -/
  | missedPulseEvent
  /-- BALLOT_TIMER_TICK: the end of 10 ms. -/
  | ballotTimerTick
  /-- BALLOT_EXPIRY. -/
  | ballotExpiry
  /-- BREAK: the tester holds MLINE low for 11 bit times and releases it. -/
  | lineBreak
  /-- COLLISION on MLINE. -/
  | collision
  /-- FRAMING_ERROR on MLINE. -/
  | framingError
  /-- CODE_BYTE: a byte received on MLINE in CLOSED access. -/
  | codeByte (b : Byte)
  /-- STATUS PEEK received. -/
  | statusPeek
  /-- DEF PEEK: its operand r is received. -/
  | defPeek (r : Byte)
  /-- DATA PEEK: its operand r is received. -/
  | dataPeek (r : Byte)
  /-- DATA_PEEK_RESPONSE: the response begins. -/
  | dataPeekResponse
  /-- QUEUE PEEK: its second operand i is received after p. -/
  | queuePeek (p i : Byte)
  /-- FREEZE received on MLINE. -/
  | freezeCommand
  /-- OPTION WRITE: its check byte is received after the image. -/
  | optionWrite (image : Vector Byte 13) (check : Byte)
  /-- PROGRAMMING_COMPLETE. -/
  | programmingComplete
  /-- OPTION READ received. -/
  | optionRead
  /-- UNKNOWN_COMMAND: a code that names no command is received. -/
  | unknownCommand (code : Byte)
  /-- CHIP_SELECT_RELEASE on port n, with no bit clocked in where the parser stands in HEADER. -/
  | chipSelectRelease (n : Port)
  /-- HCHECK_ARRIVAL: the fifth header byte arrives on port n. -/
  | hcheckArrival (n : Port) (header : FrameHeader)
  /-- MLINE_COMMAND_BYTE: a command code with operands, or an operand other than the last. -/
  | mlineCommandByte (b : Byte)
  /-- LAST_RESPONSE_BYTE_SENT. -/
  | lastResponseByteSent
  /-- POWER_LOSS. -/
  | powerLoss
deriving DecidableEq, Repr

end Sys2Proof
end

