-- ==== Sys2Proof/Config.lean ====
section
/-! DEFINITION. What the GD4120 fixes once: sizes and limits the spec states. The spec leaves no value undefined after a
command, so no free value stands here. -/

namespace Sys2Proof.Config

/-- The Record Store holds 8192 words (R19). -/
abbrev storeWords : Nat := 8192

/-- A notification queue holds at most 24 entries (R59). -/
abbrev queueCapacity : Nat := 24

/-- A lost count and the count of an entry saturate at 255 (R59, R60). -/
abbrev countMax : Nat := 255

/-- A miss count saturates at 15 (R47). -/
abbrev missMax : Nat := 15

/-- The spurious pulse count stays at 65535 (R147). -/
abbrev spuriousMax : Nat := 65535

/-- The trim is clamped to -1000..+1000 ppm (R141). -/
abbrev trimLimit : Int := 1000

/-- SYNCOUT stays high for 8 ticks (R145). -/
abbrev syncOutTicks : Nat := 8

/-- The watermark's default (R66). -/
abbrev defaultWatermark : Nat := 16

/-- The enables' default: QUEUE, OVERFLOW, XFER and FRAME, not WATERMARK (R73); bits as R186 gives them. -/
abbrev defaultEnables : BitVec 5 := 0b11101#5

/-- The device-note mask's default: all four kinds (R61). -/
abbrev defaultMask : BitVec 4 := 0b1111#4

end Sys2Proof.Config
end

