-- ==== Sys2Proof/Machine/State.lean ====
section
/-! DEFINITION. The state of the GD4120 as plain data, the reasons a step can stop, and the state after power-on.
Each block of the part (00 section 2.1) is a structure; each field names the rule of spec/ that gives it. -/

namespace Sys2Proof.Machine

/-! ## Enumerations (codes: R189, in Machine/Format.lean) -/

/-- Exchange states (R98). -/
inductive ExState where
  | init | config | armed | run | hold | stopping | halted
deriving DecidableEq, Repr

/-- Discipline states (09 section 9.4). -/
inductive Discipline where
  | master | seek | acquire | track | locked | holdover
deriving DecidableEq, Repr

/-- The mode field of a schedule header (R5). -/
inductive Mode where
  | master | follower
deriving DecidableEq, Repr

/-- Health of a record (R7). -/
inductive Health where
  | unpublished | fresh | stale
deriving DecidableEq, Repr

/-- Staging states (R23). -/
inductive Staging where
  | empty | filling | ready | blocked
deriving DecidableEq, Repr

/-- Buffer roles (R22). -/
inductive Role where
  | pub | stg | retired
deriving DecidableEq, Repr

/-- The reason of a MISSED entry (R51). -/
inductive MissReason where
  | empty | late | blocked
deriving DecidableEq, Repr

/-- Ballot items (R114). -/
inductive Item where
  | start | stop | commit | release | clear
deriving DecidableEq, Repr

/-- A member's vote in the open ballot (R113). -/
inductive Vote where
  | none | yes | no
deriving DecidableEq, Repr

/-- Ballot outcomes (R113). -/
inductive BallotOutcome where
  | passed | failed | expired | cancelled
deriving DecidableEq, Repr

/-- Reasons of a last outcome (R113). -/
inductive Reason where
  | none | veto | majorityLost | overlap | pointBeyondCycle | timebaseLocked | toleranceOrder
deriving DecidableEq, Repr

/-- Details of a SWITCH note (R139). -/
inductive SwitchDetail where
  | done | dropped
deriving DecidableEq, Repr

/-- Transfer results (R81). -/
inductive TransferResult where
  | none | ok | abortedFreeze | abortedSwitch | abortedClear
deriving DecidableEq, Repr

/-- Descriptor states (R77). -/
inductive DescState where
  | none | inProgress | valid | aborted
deriving DecidableEq, Repr

/-- The seventeen request results (R165). -/
inductive Result where
  | ok | notReady | check | unknown | range | busy | windowBusy | undefined | notOwner | notSubscribed | noData
  | wrongState | notMember | shadowLocked | ballotBusy | noBallot | alreadyVoted
deriving DecidableEq, Repr

/-- Access states of the maintenance line (R174). -/
inductive Access where
  | closed | opened | limited
deriving DecidableEq, Repr

/-- Status values of maintenance responses (R176). -/
inductive MStatus where
  | ok | denied | notReady | busy | undefined | noData | range | aborted | wrongState | programmed | check | unknown
deriving DecidableEq, Repr

/-- Line rates (R171). -/
inductive LineRate where
  | baud9600 | baud19200 | baud57600 | baud115200
deriving DecidableEq, Repr

/-- Line states of MLINE (R171). -/
inductive LineState where
  | idle | receiving | echoing | responding
deriving DecidableEq, Repr

/-- Programming states of the option store (R183). -/
inductive ProgState where
  | unprogrammed | programming | programmed
deriving DecidableEq, Repr

/-! ## Record table and runtime -/

/-- The fields of a defined record (R3). Ranges are checked at EDIT RECORD (Machine/Operands.lean). -/
structure RecordDef where
  owner : Port
  subscribers : PortSet
  length : Nat
  base : Nat
  point : Nat
  period : Nat
  phase : Nat
  missLimit : Nat
  publishNotes : Bool
  missNotes : Bool
deriving DecidableEq, Repr

/-- The schedule header (R5). -/
structure SchedHeader where
  mode : Mode
  cycleTicks : Nat
  acqTol : Nat
  lockTol : Nat
  nAcq : Nat
  nLock : Nat
  holdoverLimit : Nat
  syncWin : Nat
  ballotTime : Nat
deriving DecidableEq, Repr

/-- One image of the record table: 128 definitions (absent: defined no) and a header (R1). -/
structure Image where
  defs : Vector (Option RecordDef) 128
  header : SchedHeader
deriving DecidableEq, Repr

/-- The runtime of a record defined in the active image (R7). -/
structure Runtime where
  version : BitVec 16
  health : Health
  missCount : Nat
  lastCycle : Byte
  staging : Staging
  roles : Vector Role 3
  pins : Vector Nat 3
  stageWaiting : Bool
deriving DecidableEq, Repr

/-- The Record Store (R19): (word address, word) pairs, addresses rising, no zero word listed; an unlisted address reads 0. -/
abbrev Memory := List (Nat × Word)

/-! ## Notification entries -/

/-- An entry held in a queue, with the fields its kind has (R60). Kind EMPTY is never held. -/
inductive Entry where
  | published (record : RecNo) (version : BitVec 16) (cycle : Byte) (count : Nat)
  | stale (record : RecNo) (cycle : Byte)
  | recovered (record : RecNo) (cycle : Byte)
  | missed (record : RecNo) (cycle : Byte) (reason : MissReason)
  | ballot (cycle : Byte) (item : Item) (outcome : BallotOutcome)
  | switch (cycle : Byte) (detail : SwitchDetail)
  | exchange (cycle : Byte) (state : ExState)
  | timebase (cycle : Byte) (discipline : Discipline)
deriving DecidableEq, Repr

/-! ## Port interface, queue and attention -/

/-- Frame parser states (R159). PAYLOAD keeps the header whose parameters the request will read (R163); DRAIN keeps whether
the frame will be discarded at release for a bad hcheck (R164). -/
inductive ParserState where
  | wait
  | header
  | respond
  | payload (h : FrameHeader)
  | drain (badHcheck : Bool)
deriving DecidableEq, Repr

/-- A fetch descriptor (R77). In state NONE every other field is zero. -/
structure FetchDesc where
  state : DescState
  record : RecNo
  version : BitVec 16
  health : Health
  lastCycle : Byte
  length : Nat
deriving DecidableEq, Repr

/-- What one port holds: its Port Interface and its Notification Queue (00 section 2.1). -/
structure PortState where
  /-- Chip select is low (R158). -/
  selected : Bool
  /-- Parser state (R159). -/
  parser : ParserState
  /-- Bytes of the frame in progress (R159); after its release those of the frame just ended, until the next assertion counts from
  0 (log entry 18). -/
  byteCount : Nat
  /-- The five bytes clocked out during the header (R161). -/
  summaryOut : List Byte
  /-- The response bytes and their check byte (R162). -/
  responseOut : List Byte
  /-- Last result (R165). -/
  lastResult : Result
  /-- Write window (R76). -/
  writeWindow : Vector Word 32
  /-- Read window (R77). -/
  readWindow : Vector Word 32
  /-- Fetch descriptor (R77). -/
  desc : FetchDesc
  /-- Notification queue, head first (R59). -/
  queue : List Entry
  /-- Lost count (R59). -/
  lost : Nat
  /-- Sticky causes (R67). -/
  overflow : Bool
  xfer : Bool
  frame : Bool
  /-- Enables, in the bits of a cause set (R186). -/
  enables : BitVec 5
  /-- Watermark (R66). -/
  watermark : Nat
  /-- Device-note mask, in the bits of a note mask (R186). -/
  noteMask : BitVec 4
deriving DecidableEq, Repr

/-! ## Transfer engine -/

/-- What a lane holds (R80): nothing; a WAITING STAGE; an ACTIVE STAGE with its word index; an ACTIVE FETCH with its word
index and the buffer it pinned. -/
inductive Hold where
  | idle
  | waiting (record : RecNo)
  | staging (record : RecNo) (index : Nat)
  | fetching (record : RecNo) (index : Nat) (buffer : Buf)
deriving DecidableEq, Repr

/-- A lane (R80). -/
structure Lane where
  hold : Hold
  result : TransferResult
deriving DecidableEq, Repr

/-! ## Exchange controller -/

/-- The open ballot (R113). -/
structure OpenBallot where
  item : Item
  votes : Vector Vote 4
  opener : Port
  elapsed : Nat
  limit : Nat
deriving DecidableEq, Repr

/-- The last outcome (R113): no item and no outcome before the first close. -/
structure LastOutcome where
  item : Option Item
  outcome : Option BallotOutcome
  reason : Reason
  record : RecNo
deriving DecidableEq, Repr

/-- The ballot record (R113): `current` is absent while the state is NONE. -/
structure BallotRecord where
  current : Option OpenBallot
  last : LastOutcome
deriving DecidableEq, Repr

/-! ## Timebase -/

/-- The Timebase (09 introduction). -/
structure Timebase where
  /-- Not stopped (R143). -/
  running : Bool
  /-- Tick count: the tick in progress (R142). -/
  tickCount : Nat
  /-- The tick in progress has been handed to the Publication Engine (R142); until then its points are still to be taken (R40). -/
  tickHanded : Bool
  cycleNumber : Byte
  trim : Int
  discipline : Discipline
  acquireRun : Nat
  lockRun : Nat
  missedRun : Nat
  holdoverCount : Nat
  startCredit : Bool
  nextCredit : Bool
  spurious : Nat
  /-- This cycle's missed-pulse event has been made (R148: at most once in each cycle). -/
  missedMade : Bool
  /-- SYNCOUT is high (R145). -/
  syncOut : Bool
  /-- Whole ticks that have passed since SYNCOUT was driven high, 0..7: with the tick in progress they make the 8 of R145. -/
  syncOutAge : Nat
deriving DecidableEq, Repr

/-! ## Maintenance line, option store -/

/-- Command parser states (R176). OPERANDS keeps the command's code and the operands received so far. -/
inductive CmdParser where
  | idle
  | operands (code : Byte) (received : List Byte)
  | answering
  | muted
deriving DecidableEq, Repr

/-- What the part last put, or is putting, on MLINE (R171 to R178): nothing since it was last stopped or reset; the echo of a byte;
the echo of the eighth code byte and then its ready break; the echo of a command's last byte and then its response; a response that
started later than its echo; a break of its own. The line state says how far it is: ECHOING for an echo, RESPONDING for a response
or a break, IDLE once it has ended. -/
inductive LineOutput where
  | nothing
  | echo (b : Byte)
  | echoThenBreak (b : Byte)
  | echoThenResponse (b : Byte) (bytes : List Byte)
  | response (bytes : List Byte)
  | ownBreak
deriving DecidableEq, Repr

/-- How far LM has reported the fetch of a DATA PEEK (R90, R178). -/
inductive PeekStatus where
  | copying | completed | aborted
deriving DecidableEq, Repr

/-- The DATA PEEK being carried out: what LM reported when it took the fetch, and its end (R90, R178). -/
structure DataPeek where
  length : Nat
  version : BitVec 16
  health : Health
  lastCycle : Byte
  status : PeekStatus
deriving DecidableEq, Repr

/-- The Maintenance Line Interface (11). -/
structure MLine where
  access : Access
  /-- The kept code bytes; the code count is their number (R174). -/
  kept : List Byte
  /-- The access code read at power-on, absent for an unprogrammed store (R182). -/
  storedCode : Option (Vector Byte 8)
  rate : LineRate
  line : LineState
  parser : CmdParser
  sent : LineOutput
  dataPeek : Option DataPeek
  /-- An OPTION WRITE whose programming has begun is still to be answered (R179). -/
  awaitAck : Bool
  /-- The peek buffer (R90). -/
  peekBuf : Vector Word 32
deriving DecidableEq, Repr

/-- The option image without its flag byte (R181). -/
structure OptionImage where
  accessCode : Vector Byte 8
  lineRate : Byte
  resetMode : Byte
  resetCycleTicks : BitVec 16
deriving DecidableEq, Repr

/-- The Option Store (R181, R183). The image is used only while the state is PROGRAMMED; while PROGRAMMING it is the image being
written. -/
structure OptionStore where
  state : ProgState
  image : OptionImage
deriving DecidableEq, Repr

/-! ## The whole state -/

/-- The state of the part, and the queue of commands that wait. -/
structure State where
  /-- Commands that wait, first in, first out (the model's own). -/
  pending : List Instr
  /-- Power is on (R183). -/
  powered : Bool
  /-- RESET_N is held low (R110). -/
  resetLow : Bool
  /-- Member set (R180). -/
  members : PortSet
  /-- Ports P0 to P3. -/
  ports : Vector PortState 4
  /-- Lanes L0 to L3 and LM (R80). -/
  lanes : Vector Lane 5
  /-- The lane granted last (R82). -/
  arbiter : LaneNo
  /-- Active image (R1). -/
  active : Image
  /-- Shadow image (R1). -/
  shadow : Image
  /-- Runtimes (R7). -/
  runtimes : Vector (Option Runtime) 128
  /-- Record Store (R19). -/
  store : Memory
  /-- The store clear is in progress (R20). -/
  clearing : Bool
  /-- Exchange state (R98). -/
  exchange : ExState
  /-- Ballot record (R113). -/
  ballot : BallotRecord
  /-- Switch-pending flag (R129). -/
  switchPending : Bool
  /-- Timebase. -/
  tb : Timebase
  /-- Maintenance Line Interface. -/
  ml : MLine
  /-- Option Store. -/
  opt : OptionStore
deriving DecidableEq, Repr

/-! ## How a step can stop -/

/-- The faults. -/
inductive Fault where
  /-- Raised by WORD_ACCESS when a STAGE or a FETCH addresses a store word above 8191, which the spec says does not exist
  (R19). R1 keeps every group of a defined active record inside 0..8191, so no run from reset raises it. Safe. -/
  | storeAddress
deriving DecidableEq, Repr

/-- The refusals. -/
inductive Refusal where
  /-- Raised by exec's arm of a command that has no meaning yet (none is left). Safe. -/
  | notModelled (mnemonic : String)
deriving DecidableEq, Repr

/-- What a command answers. -/
abbrev Answer := Host.Outcome State Fault Refusal

/-! ## Right after power-on -/

/-- A port right after power-on (R73, R97, R169); its queue holds the EXCHANGE note for INIT, with cycle number 0 (R73). -/
def PortState.reset : PortState where
  selected := false
  parser := .wait
  byteCount := 0
  summaryOut := []
  responseOut := []
  lastResult := .ok
  writeWindow := Vector.replicate 32 0
  readWindow := Vector.replicate 32 0
  desc := ⟨.none, 0, 0, .unpublished, 0, 0⟩
  queue := [.exchange 0 .init]
  lost := 0
  overflow := false
  xfer := false
  frame := false
  enables := Config.defaultEnables
  watermark := Config.defaultWatermark
  noteMask := Config.defaultMask

/-- The image after a table reset with an unprogrammed option store (R5, R6, R18). -/
def Image.reset : Image where
  defs := Vector.replicate 128 none
  header := ⟨.master, 1000, 20, 2, 4, 16, 32, 100, 50⟩

/-- The state right after power-on: in INIT, the store clear under way (R18, R20, R73, R97, R99, R110, R143, R169, R174, R175).
DESIGN CHOICE (log entry 4): straps all low, so that every port is a member (R180); an option store never programmed; RESET_N
and the chip selects high; peek buffer and output bytes empty. -/
def State.reset : State where
  pending := []
  powered := true
  resetLow := false
  members := 0b1111#4
  ports := Vector.replicate 4 PortState.reset
  lanes := Vector.replicate 5 ⟨.idle, .none⟩
  arbiter := 4
  active := Image.reset
  shadow := Image.reset
  runtimes := Vector.replicate 128 none
  store := []
  clearing := true
  exchange := .init
  ballot := ⟨none, ⟨none, none, .none, 0⟩⟩
  switchPending := false
  tb := { running := false, tickCount := 0, tickHanded := false, cycleNumber := 0, trim := 0, discipline := .master,
          acquireRun := 0, lockRun := 0, missedRun := 0, holdoverCount := 0, startCredit := false, nextCredit := false,
          spurious := 0, missedMade := false, syncOut := false, syncOutAge := 0 }
  ml := { access := .closed, kept := [], storedCode := none, rate := .baud19200, line := .idle, parser := .idle,
          sent := .nothing, dataPeek := none, awaitAck := false, peekBuf := Vector.replicate 32 0 }
  opt := ⟨.unprogrammed, ⟨Vector.replicate 8 0, 0, 0, 0⟩⟩

end Sys2Proof.Machine
end

