-- ==== Sys2Proof/Machine/Ops.lean ====
section
/-! DEFINITION. The named operations over the store, the ports, the lanes and the runtimes, through which every command reads
and writes them. -/

namespace Sys2Proof.Machine

/-! ## The Record Store (R19) -/

/-- The word at an address; an address not listed holds 0 (R19: no STAGE has written it since the last store clear). -/
def Memory.read : Memory → Nat → Word
  | [], _ => 0
  | (b, v) :: m, a => if b = a then v else Memory.read m a

/-- Writing a word, keeping addresses rising and listing no zero word. -/
def Memory.write : Memory → Nat → Word → Memory
  | [], a, w => if w = 0 then [] else [(a, w)]
  | (b, v) :: m, a, w =>
    if a < b then (if w = 0 then (b, v) :: m else (a, w) :: (b, v) :: m)
    else if a = b then (if w = 0 then m else (a, w) :: m)
    else (b, v) :: Memory.write m a w

/-- The canonical form from an address on: addresses rising and inside the store, no zero word listed. -/
def Memory.wfFrom : Nat → Memory → Bool
  | _, [] => true
  | lo, (a, w) :: m => lo ≤ a && a < Config.storeWords && w != 0 && Memory.wfFrom (a + 1) m

/-- The canonical form of the store. -/
def Memory.wf (m : Memory) : Bool := Memory.wfFrom 0 m

/-! ## Names of ports, lanes, records and buffers -/

def allPorts : List Port := [0, 1, 2, 3]

def allLanes : List LaneNo := [0, 1, 2, 3, 4]

def allRecords : List RecNo := List.finRange 128

def allBuffers : List Buf := [0, 1, 2]

/-- Lane Ln of port n (R80). -/
def laneOf (n : Port) : LaneNo := n.castSucc

/-- Lane LM (R80). -/
def lm : LaneNo := 4

/-- The port a lane belongs to; none for LM (R80). -/
def portOf (l : LaneNo) : Option Port := if h : l.val < 4 then some ⟨l.val, h⟩ else none

/-! ## Reading the state -/

/-- The part works: power is on and RESET_N is high. Held in reset, no port takes a frame and MLINE is released (R110, R171). -/
def State.live (s : State) : Bool := s.powered && !s.resetLow

/-- What port n holds. -/
def State.port (s : State) (n : Port) : PortState := s.ports[n]

/-- What a lane holds. -/
def State.lane (s : State) (l : LaneNo) : Lane := s.lanes[l]

/-- Record r's definition in the active image. -/
def State.activeDef (s : State) (r : RecNo) : Option RecordDef := s.active.defs[r]

/-- Record r's definition in the shadow image. -/
def State.shadowDef (s : State) (r : RecNo) : Option RecordDef := s.shadow.defs[r]

/-- Record r's runtime. -/
def State.runtime (s : State) (r : RecNo) : Option Runtime := s.runtimes[r]

/-- A port in the member set (R180). -/
def State.isMember (s : State) (n : Port) : Bool := s.members.getLsbD n.val

/-- The number of members M (R180). -/
def State.memberCount (s : State) : Nat := (allPorts.filter s.isMember).length

/-- The item of the open ballot, absent while the state is NONE (R113). -/
def State.openItem (s : State) : Option Item := s.ballot.current.map (·.item)

/-- The shadow is locked while a COMMIT ballot is open and while a switch is pending (R2). -/
def State.shadowLocked (s : State) : Bool := s.switchPending || s.openItem == some Item.commit

/-! ## Writing the state -/

def State.modPort (s : State) (n : Port) (f : PortState → PortState) : State :=
  { s with ports := s.ports.set n (f s.ports[n]) }

def State.setLane (s : State) (l : LaneNo) (x : Lane) : State :=
  { s with lanes := s.lanes.set l x }

def State.setRuntime (s : State) (r : RecNo) (rt : Runtime) : State :=
  { s with runtimes := s.runtimes.set r (some rt) }

def State.setTb (s : State) (tb : Timebase) : State := { s with tb := tb }

def State.setMl (s : State) (ml : MLine) : State := { s with ml := ml }

def State.setExchange (s : State) (x : ExState) : State := { s with exchange := x }

def State.setShadow (s : State) (i : Image) : State := { s with shadow := i }

def State.setBallot (s : State) (b : BallotRecord) : State := { s with ballot := b }

/-- A command that is due takes its effect. A command offered where the spec says its event does not come, or cannot come in
the state the part stands in, finds nothing to do: the state stays (log entry 1). -/
def ifDue (due : Bool) (s effect : State) : Answer := .next (if due then effect else s)

end Sys2Proof.Machine
end

