-- ==== Sys2Proof/Machine/Flags.lean ====
section
/-! DEFINITION. The five attention causes of a port and its ATN line (04 section 4.4). -/

namespace Sys2Proof.Machine

/-- QUEUE is present while the depth is at least 1 (R66). -/
def PortState.queueCause (p : PortState) : Bool := 1 ≤ p.queue.length

/-- WATERMARK is present while the depth is at least the watermark (R66). -/
def PortState.watermarkCause (p : PortState) : Bool := p.watermark ≤ p.queue.length

/-- The causes present, in the bits of a cause set: bit 0 QUEUE, 1 WATERMARK, 2 OVERFLOW, 3 XFER, 4 FRAME (R186). -/
def PortState.causes (p : PortState) : BitVec 5 :=
  BitVec.ofBool p.frame ++ BitVec.ofBool p.xfer ++ BitVec.ofBool p.overflow ++ BitVec.ofBool p.watermarkCause
    ++ BitVec.ofBool p.queueCause

/-- The ATN line is pulled low while a cause is both present and enabled (R68). -/
def PortState.atnLow (p : PortState) : Bool := p.causes &&& p.enables != 0

end Sys2Proof.Machine
end

