-- ==== Sys2Proof/Machine/Format.lean ====
section
/-! DEFINITION. The byte layouts the part sends, and the codes in them (13 sections 13.2 to 13.5, R184 to R189), and the check
byte that closes them (R160). -/

namespace Sys2Proof.Machine

/-! ## Check byte (R160) -/

/-- One bit into the register: shift towards the most significant end; where the bit shifted out and the data bit together are
one, combine with 07h. -/
def crcBit (reg : Byte) (bit : Bool) : Byte :=
  if reg.msb != bit then (reg <<< 1) ^^^ 0x07 else reg <<< 1

/-- One byte into the register, most significant bit first. -/
def crcByte (reg b : Byte) : Byte :=
  [7, 6, 5, 4, 3, 2, 1, 0].foldl (fun r i => crcBit r (b.getLsbD i)) reg

/-- The check byte of a run of bytes: the register starts at FFh, with no final inversion. -/
def crc8 (bytes : List Byte) : Byte := bytes.foldl crcByte 0xFF

/-- Bytes and the check byte over them. -/
def withCheck (bytes : List Byte) : List Byte := bytes ++ [crc8 bytes]

/-! ## Numbers (R184): most significant byte first -/

def byteOf (n : Nat) : Byte := BitVec.ofNat 8 n

def be16 (v : BitVec 16) : List Byte := [v.extractLsb' 8 8, v.extractLsb' 0 8]

def be16OfNat (n : Nat) : List Byte := be16 (BitVec.ofNat 16 n)

def be32 (w : Word) : List Byte := [w.extractLsb' 24 8, w.extractLsb' 16 8, w.extractLsb' 8 8, w.extractLsb' 0 8]

def boolByte (b : Bool) : Byte := if b then 1 else 0

def zeros (n : Nat) : List Byte := List.replicate n 0

/-! ## Codes (R189) -/

def ExState.code : ExState → Nat
  | .init => 0 | .config => 1 | .armed => 2 | .run => 3 | .hold => 4 | .stopping => 5 | .halted => 6

def Discipline.code : Discipline → Nat
  | .master => 0 | .seek => 1 | .acquire => 2 | .track => 3 | .locked => 4 | .holdover => 5

def Mode.code : Mode → Nat
  | .master => 0 | .follower => 1

def Health.code : Health → Nat
  | .unpublished => 0 | .fresh => 1 | .stale => 2

def Staging.code : Staging → Nat
  | .empty => 0 | .filling => 1 | .ready => 2 | .blocked => 3

/-- Role codes (R187). -/
def Role.code : Role → Nat
  | .pub => 1 | .stg => 2 | .retired => 3

def TransferResult.code : TransferResult → Nat
  | .none => 0 | .ok => 1 | .abortedFreeze => 2 | .abortedSwitch => 3 | .abortedClear => 4

def DescState.code : DescState → Nat
  | .none => 0 | .inProgress => 1 | .valid => 2 | .aborted => 3

def MissReason.code : MissReason → Nat
  | .empty => 1 | .late => 2 | .blocked => 3

def SwitchDetail.code : SwitchDetail → Nat
  | .done => 1 | .dropped => 2

def Item.code : Item → Nat
  | .start => 1 | .stop => 2 | .commit => 3 | .release => 4 | .clear => 5

def Vote.code : Vote → Nat
  | .none => 0 | .yes => 1 | .no => 2

def BallotOutcome.code : BallotOutcome → Nat
  | .passed => 1 | .failed => 2 | .expired => 3 | .cancelled => 4

def Reason.code : Reason → Nat
  | .none => 0 | .veto => 1 | .majorityLost => 2 | .overlap => 3 | .pointBeyondCycle => 4 | .timebaseLocked => 5
  | .toleranceOrder => 6

def Access.code : Access → Nat
  | .closed => 0 | .opened => 1 | .limited => 2

def Result.code : Result → Nat
  | .ok => 0x00 | .notReady => 0x01 | .check => 0x02 | .unknown => 0x03 | .range => 0x04 | .busy => 0x05
  | .windowBusy => 0x06 | .undefined => 0x07 | .notOwner => 0x08 | .notSubscribed => 0x09 | .noData => 0x0A
  | .wrongState => 0x0B | .notMember => 0x0C | .shadowLocked => 0x0D | .ballotBusy => 0x0E | .noBallot => 0x0F
  | .alreadyVoted => 0x10

def MStatus.code : MStatus → Nat
  | .ok => 0x00 | .denied => 0x01 | .notReady => 0x02 | .busy => 0x03 | .undefined => 0x04 | .noData => 0x05
  | .range => 0x06 | .aborted => 0x07 | .wrongState => 0x08 | .programmed => 0x09 | .check => 0x0A | .unknown => 0x0B

/-! ## Tables, entries and status (R187) -/

/-- A record definition, 12 bytes; an undefined record reads with period 1 and every other byte zero. -/
def defBytes : Option RecordDef → List Byte
  | none => [0, 0, 0, 0, 0, 0, 0, 0, 1, 0, 0, 0]
  | some d =>
    [1, byteOf d.owner.val, d.subscribers.setWidth 8, byteOf d.length] ++ be16OfNat d.base ++ be16OfNat d.point
      ++ [byteOf d.period, byteOf d.phase, byteOf d.missLimit,
          boolByte d.publishNotes ||| (boolByte d.missNotes <<< 1)]

/-- A runtime block, 10 bytes; all zero without a runtime (R13). -/
def runtimeBytes : Option Runtime → List Byte
  | none => zeros 10
  | some rt =>
    be16 rt.version
      ++ [byteOf rt.health.code, byteOf rt.missCount, rt.lastCycle,
          byteOf rt.staging.code ||| (boolByte rt.stageWaiting <<< 7),
          byteOf (rt.roles[0].code + 4 * rt.roles[1].code + 16 * rt.roles[2].code),
          byteOf rt.pins[0], byteOf rt.pins[1], byteOf rt.pins[2]]

/-- A schedule header, 16 bytes. -/
def headerBytes (h : SchedHeader) : List Byte :=
  [byteOf h.mode.code] ++ be16OfNat h.cycleTicks
    ++ [byteOf h.acqTol, byteOf h.lockTol, byteOf h.nAcq, byteOf h.nLock, byteOf h.holdoverLimit]
    ++ be16OfNat h.syncWin ++ [byteOf h.ballotTime] ++ zeros 5

/-- A notification entry, 8 bytes. -/
def entryBytes : Entry → List Byte
  | .published r v c n => [1, byteOf r.val] ++ be16 v ++ [c, byteOf n, 0, 0]
  | .stale r c => [2, byteOf r.val, 0, 0, c, 0, 0, 0]
  | .recovered r c => [3, byteOf r.val, 0, 0, c, 0, 0, 0]
  | .missed r c m => [4, byteOf r.val, 0, 0, c, 0, byteOf m.code, 0]
  | .ballot c i o => [5, 0, 0, 0, c, 0, byteOf i.code, byteOf o.code]
  | .switch c d => [6, 0, 0, 0, c, 0, byteOf d.code, 0]
  | .exchange c x => [7, 0, 0, 0, c, 0, byteOf x.code, 0]
  | .timebase c d => [8, 0, 0, 0, c, 0, byteOf d.code, 0]

/-- The EMPTY entry: the current cycle number and every other field zero (R64). -/
def emptyEntryBytes (cycle : Byte) : List Byte := [0, 0, 0, 0, cycle, 0, 0, 0]

/-- A fetch descriptor, 7 bytes. -/
def descBytes (d : FetchDesc) : List Byte :=
  [byteOf d.state.code, byteOf d.record.val] ++ be16 d.version ++ [byteOf d.health.code, d.lastCycle, byteOf d.length]

/-- Codes of an absent item or outcome are 0 (R189). -/
def itemByte (i : Option Item) : Byte := byteOf ((i.map Item.code).getD 0)

def outcomeByte (o : Option BallotOutcome) : Byte := byteOf ((o.map BallotOutcome.code).getD 0)

/-- The votes byte: two bits a port, P0 lowest; NONE for a non-member (R126). -/
def State.voteCode (s : State) (b : OpenBallot) (n : Port) : Nat := if s.isMember n then b.votes[n].code else 0

/-- The first seven bytes' ballot part: state, item, opening port, votes, member set, elapsed time, time limit. -/
def State.openBallotBytes (s : State) : List Byte :=
  match s.ballot.current with
  | none => [0, 0, 0, 0, s.members.setWidth 8, 0, 0]
  | some b =>
    [1, byteOf b.item.code, byteOf b.opener.val,
     byteOf (s.voteCode b 0 + 4 * s.voteCode b 1 + 16 * s.voteCode b 2 + 64 * s.voteCode b 3),
     s.members.setWidth 8, byteOf b.elapsed, byteOf b.limit]

/-- The ballot block, 12 bytes (R126). -/
def State.ballotBytes (s : State) : List Byte :=
  s.openBallotBytes
    ++ [boolByte s.switchPending, itemByte s.ballot.last.item, outcomeByte s.ballot.last.outcome,
        byteOf s.ballot.last.reason.code, byteOf s.ballot.last.record.val]

/-- A lane in one byte: bits 1..0 state, bit 2 kind, zero while IDLE (R187, STATUS byte 4). -/
def holdByte : Hold → Byte
  | .idle => 0
  | .waiting _ => 1
  | .staging _ _ => 2
  | .fetching _ _ _ => 2 + 4

/-- The record a lane holds; 0 while IDLE (R167). -/
def holdRecordByte : Hold → Byte
  | .idle => 0
  | .waiting r => byteOf r.val
  | .staging r _ => byteOf r.val
  | .fetching r _ _ => byteOf r.val

/-- Byte 0 of the STATUS block and of the device status: bits 6..4 exchange state, bits 2..0 discipline state. -/
def State.stateByte (s : State) : Byte := byteOf (16 * s.exchange.code + s.tb.discipline.code)

def State.trimBytes (s : State) : List Byte := be16 (BitVec.ofInt 16 s.tb.trim)

/-- The STATUS block of port n, 16 bytes (R167). -/
def State.statusBytes (s : State) (n : Port) : List Byte :=
  let p := s.port n
  let l := s.lane (laneOf n)
  [s.stateByte] ++ s.trimBytes
    ++ [s.tb.cycleNumber, holdByte l.hold, holdRecordByte l.hold, byteOf l.result.code, byteOf p.lastResult.code,
        byteOf p.queue.length, byteOf p.lost, p.causes.setWidth 8, p.enables.setWidth 8, byteOf p.watermark,
        (s.members ++ p.noteMask : BitVec 8)]
    ++ be16OfNat s.tb.spurious

/-- The device status of STATUS PEEK, 8 bytes (R177, R188). -/
def State.deviceStatusBytes (s : State) : List Byte :=
  let l := s.lane lm
  [s.stateByte] ++ s.trimBytes
    ++ [s.tb.cycleNumber,
        byteOf (s.ml.access.code + (if s.ballot.current.isSome then 4 else 0)
          + 16 * ((s.openItem.map Item.code).getD 0) + (if s.switchPending then 128 else 0)),
        holdByte l.hold, holdRecordByte l.hold, byteOf l.result.code]

/-- The summary byte: bit 7 ATN pending, bits 6..4 exchange state, bit 3 lane busy, bit 2 queue not empty (R186). -/
def State.summaryByte (s : State) (n : Port) : Byte :=
  byteOf ((if (s.port n).atnLow then 128 else 0) + 16 * s.exchange.code
    + (if (s.lane (laneOf n)).hold != Hold.idle then 8 else 0) + (if (s.port n).queueCause then 4 else 0))

/-- The summary bytes and their check (R161). -/
def State.summaryBytes (s : State) (n : Port) : List Byte :=
  withCheck [s.summaryByte n, byteOf (s.port n).lastResult.code, byteOf (s.port n).queue.length, s.tb.cycleNumber]

/-- The option image as OPTION READ returns it: the code bytes read as zeros, and an unprogrammed store reads all zero, while
PROGRAMMING too (R181, R183). -/
def optionReadBytes (o : OptionStore) : List Byte :=
  match o.state with
  | .programmed => [1] ++ zeros 8 ++ [o.image.lineRate, o.image.resetMode] ++ be16 o.image.resetCycleTicks
  | .unprogrammed | .programming => zeros 13

/-- The peek descriptor, 5 bytes (R188). -/
def peekDescBytes (d : DataPeek) : List Byte :=
  [byteOf d.length] ++ be16 d.version ++ [byteOf d.health.code, d.lastCycle]

/-- `count` words of a window from `offset` on, each most significant byte first (R79, R178). -/
def windowBytes (w : Vector Word 32) (offset count : Nat) : List Byte :=
  ((w.toList.drop offset).take count).flatMap be32

/-- ACK and NAK (R188). -/
def ackByte : Byte := 0xA5
def nakByte : Byte := 0x5A

/-- The three-byte answers: ACK or NAK, the status, the check byte (R176). -/
def ackResponse : List Byte := withCheck [ackByte, byteOf MStatus.ok.code]

def nakResponse (st : MStatus) : List Byte := withCheck [nakByte, byteOf st.code]

/-- A response that is the status byte and the check byte alone (R176). -/
def statusResponse (st : MStatus) : List Byte := withCheck [byteOf st.code]

/-- A response of status OK, data and check byte (R176). -/
def okResponse (bytes : List Byte) : List Byte := withCheck (byteOf MStatus.ok.code :: bytes)

end Sys2Proof.Machine
end

