-- ==== Sys2Proof/Machine/Operands.lean ====
section
/-! DEFINITION. How received bytes are read: parameters, payloads, frame headers, what follows a header, the option image, with
every range check and every code that names no value (R9, R11, R159 to R164, R185 to R189). -/

namespace Sys2Proof.Machine

/-! ## Parameters -/

/-- A record number 0..127 (R185). -/
def recNo? (b : Byte) : Option RecNo := if h : b.toNat < 128 then some ⟨b.toNat, h⟩ else none

/-- The image code: 00h ACTIVE, 01h SHADOW (R186). -/
inductive ImageSel where
  | active | shadow
deriving DecidableEq, Repr

def imageSel? (b : Byte) : Option ImageSel :=
  if b = 0x00 then some .active else if b = 0x01 then some .shadow else none

/-- The ballot item of a VOTE (R189); code 0 names no item. -/
def item? (b : Byte) : Option Item :=
  if b = 1 then some .start else if b = 2 then some .stop else if b = 3 then some .commit
  else if b = 4 then some .release else if b = 5 then some .clear else none

/-- The choice of a VOTE: 01h YES, 02h NO (R186). -/
def choice? (b : Byte) : Option Vote := if b = 1 then some .yes else if b = 2 then some .no else none

/-- A set of causes: five bits, no other bit set (R185, R186). -/
def causeSet? (b : Byte) : Option (BitVec 5) := if b.toNat < 32 then some (b.setWidth 5) else none

/-- A device-note mask: four bits, no other bit set (R185, R186). -/
def noteMask? (b : Byte) : Option (BitVec 4) := if b.toNat < 16 then some (b.setWidth 4) else none

/-- The offset and count of a window request: offset 0..31, count 1..32, their sum at most 32 (R78, R79). -/
def windowRangeOk (offset count : Byte) : Bool :=
  offset.toNat ≤ 31 && 1 ≤ count.toNat && count.toNat ≤ 32 && offset.toNat + count.toNat ≤ 32

/-! ## Payloads -/

/-- Two bytes, most significant first. -/
def natOfBe16 (hi lo : Byte) : Nat := hi.toNat * 256 + lo.toNat

/-- Four bytes, most significant first. -/
def wordOfBe32 (a b c d : Byte) : Word := a ++ b ++ c ++ d

/-- The words of a payload, four bytes each (R78). -/
def wordsOfBytes : List Byte → List Word
  | a :: b :: c :: d :: rest => wordOfBe32 a b c d :: wordsOfBytes rest
  | _ => []

/-- The range and cross-field checks of a definition (R9). -/
def RecordDef.inRange (d : RecordDef) : Bool :=
  1 ≤ d.length && d.length ≤ 32 && d.base ≤ 8191 && d.point ≤ 49999
    && [1, 2, 4, 8, 16, 32, 64, 128].contains d.period && d.phase < d.period
    && 1 ≤ d.missLimit && d.missLimit ≤ 15 && d.base + 3 * d.length ≤ 8192
    && !d.subscribers.getLsbD d.owner.val

/-- The definition an EDIT RECORD payload carries, absent where R9 or R185 refuses it with RANGE. -/
def parseDef (p : Vector Byte 12) : Option RecordDef :=
  if h : p[1].toNat < 4 then
    let d : RecordDef :=
      { owner := ⟨p[1].toNat, h⟩, subscribers := p[2].setWidth 4, length := p[3].toNat, base := natOfBe16 p[4] p[5],
        point := natOfBe16 p[6] p[7], period := p[8].toNat, phase := p[9].toNat, missLimit := p[10].toNat,
        publishNotes := p[11].getLsbD 0, missNotes := p[11].getLsbD 1 }
    if p[0] = 1 && p[2].toNat < 16 && p[11].toNat < 4 && d.inRange then some d else none
  else none

/-- The ranges of the header fields (R5). -/
def SchedHeader.inRange (h : SchedHeader) : Bool :=
  200 ≤ h.cycleTicks && h.cycleTicks ≤ 50000 && 2 ≤ h.acqTol && h.acqTol ≤ 255 && 1 ≤ h.lockTol && h.lockTol ≤ 255
    && 1 ≤ h.nAcq && h.nAcq ≤ 15 && 1 ≤ h.nLock && h.nLock ≤ 63 && 1 ≤ h.holdoverLimit && h.holdoverLimit ≤ 255
    && 4 ≤ h.syncWin && h.syncWin ≤ 1023 && 1 ≤ h.ballotTime && h.ballotTime ≤ 255

/-- Mode codes (R187). -/
def mode? (b : Byte) : Option Mode := if b = 0 then some .master else if b = 1 then some .follower else none

/-- The header an EDIT HEADER payload carries, absent where R11 or R185 refuses it with RANGE. -/
def parseHeader (p : Vector Byte 16) : Option SchedHeader :=
  match mode? p[0] with
  | none => none
  | some m =>
    let h : SchedHeader :=
      { mode := m, cycleTicks := natOfBe16 p[1] p[2], acqTol := p[3].toNat, lockTol := p[4].toNat, nAcq := p[5].toNat,
        nLock := p[6].toNat, holdoverLimit := p[7].toNat, syncWin := natOfBe16 p[8] p[9], ballotTime := p[10].toNat }
    if p[11] = 0 && p[12] = 0 && p[13] = 0 && p[14] = 0 && p[15] = 0 && h.inRange then some h else none

/-! ## Frames (R159 to R164, R186) -/

/-- The codes of the six read kinds. -/
def readCodes : List Byte := [0x10, 0x11, 0x12, 0x13, 0x14, 0x15]

/-- The codes of the twelve write kinds. -/
def writeCodes : List Byte := [0x20, 0x21, 0x22, 0x23, 0x24, 0x30, 0x31, 0x32, 0x33, 0x34, 0x40, 0x4F]

end Sys2Proof.Machine

namespace Sys2Proof

/-- hcheck equals the check byte over code, p1, p2 and p3 (R160). -/
def FrameHeader.valid (h : FrameHeader) : Bool := h.hcheck = Machine.crc8 [h.code, h.p1, h.p2, h.p3]

/-- The three parameter bytes. -/
def FrameHeader.params (h : FrameHeader) : List Byte := [h.p1, h.p2, h.p3]

/-- The payload kinds: WRITE WINDOW, EDIT RECORD, EDIT HEADER (R159). -/
def FrameHeader.hasPayload (h : FrameHeader) : Bool := ([0x20, 0x30, 0x32] : List Byte).contains h.code

/-- The bytes a write kind expects after its header (R159). -/
def FrameHeader.expectedAfter (h : FrameHeader) : Nat :=
  if h.code = 0x20 then 4 * h.p2.toNat + 1 else if h.code = 0x30 then 13 else if h.code = 0x32 then 17 else 0

/-- A write frame is whole: the expected number of whole bytes after the header, no partial byte, and a valid pcheck over the
payload where the kind has one (R163). -/
def FrameHeader.whole (h : FrameHeader) (after : List Byte) (partialBits : Nat) : Bool :=
  partialBits = 0 && after.length = h.expectedAfter
    && (!h.hasPayload || after.getLast? == some (Machine.crc8 after.dropLast))

end Sys2Proof

namespace Sys2Proof.Machine

/-- A header is arriving on port n: the part works and the parser stands in HEADER (R159). -/
def State.headerOn (s : State) (n : Port) : Bool := s.live && (s.port n).parser == .header

/-- The release of port n's chip select carries a whole write frame of this code, these parameters and these bytes after the
header (R163). -/
def State.writeFrameOn (s : State) (n : Port) (code : Byte) (params after : List Byte) : Bool :=
  s.live && match (s.port n).parser with
    | .payload h => h.code = code && h.params.take params.length == params && h.whole after 0
    | _ => false

/-- The release of port n's chip select discards the frame in progress (R164): a short frame, a bad hcheck, or a write frame
that is not whole. -/
def State.discardOn (s : State) (n : Port) (bytes : List Byte) (partialBits : Nat) : Bool :=
  s.live && match (s.port n).parser with
    | .header => bytes.length < 5 && (bytes != [] || partialBits != 0)
    | .drain bad => bad
    | .payload h => !h.whole bytes partialBits
    | .wait | .respond => false

/-- The release of port n's chip select ends no frame that can be taken or discarded: after a read kind, after an unknown code,
of an assertion ignored since reset, or with no bit clocked in (R158, R162, R164). While power is off or RESET_N is low the
release is the pin's alone. -/
def State.plainReleaseOn (s : State) (n : Port) : Bool :=
  (s.port n).selected && (!s.live || match (s.port n).parser with
    | .wait | .respond | .header => true
    | .drain bad => !bad
    | .payload _ => false)

/-! ## Option image (R6, R181, R188, R189) -/

/-- The image an OPTION WRITE carries; its flag byte is ignored. -/
def parseOptionImage (p : Vector Byte 13) : OptionImage where
  accessCode := Vector.ofFn fun i : Fin 8 => p[i.val + 1]
  lineRate := p[9]
  resetMode := p[10]
  resetCycleTicks := p[11] ++ p[12]

/-- The line rate in force after power-on; 19200 baud unless a programmed image names another (R171, R181). -/
def OptionStore.rate (o : OptionStore) : LineRate :=
  if o.state = .programmed then
    if o.image.lineRate = 1 then .baud9600 else if o.image.lineRate = 3 then .baud57600
    else if o.image.lineRate = 4 then .baud115200 else .baud19200
  else .baud19200

/-- The header reset's mode (R6). -/
def OptionStore.mode (o : OptionStore) : Mode :=
  if o.state = .programmed then (mode? o.image.resetMode).getD .master else .master

/-- The header reset's cycle ticks (R6). -/
def OptionStore.cycleTicks (o : OptionStore) : Nat :=
  if o.state = .programmed && 200 ≤ o.image.resetCycleTicks.toNat && o.image.resetCycleTicks.toNat ≤ 50000 then
    o.image.resetCycleTicks.toNat
  else 1000

/-- The access code that code entry compares, absent for an unprogrammed store (R174, R182). -/
def OptionStore.code (o : OptionStore) : Option (Vector Byte 8) :=
  if o.state = .programmed then some o.image.accessCode else none

end Sys2Proof.Machine
end

