-- ==== Sys2Proof/Machine/Notes.lean ====
section
/-! DEFINITION. How an entry arrives at a queue: the device-note mask, coalescing, joining, overflow (04 section 4.2), and how
notes are handed to several queues. -/

namespace Sys2Proof.Machine

/-- The mask bit of a device note: BALLOT 0, SWITCH 1, EXCHANGE 2, TIMEBASE 3 (R186); none for a record note (R52). -/
def Entry.maskBit : Entry → Option Nat
  | .ballot _ _ _ => some 0
  | .switch _ _ => some 1
  | .exchange _ _ => some 2
  | .timebase _ _ => some 3
  | .published _ _ _ _ | .stale _ _ | .recovered _ _ | .missed _ _ _ => none

/-- The mask discards a device note whose kind is clear (R61). -/
def PortState.masks (p : PortState) (e : Entry) : Bool :=
  match e.maskBit with
  | some k => !p.noteMask.getLsbD k
  | none => false

/-- A PUBLISHED entry for record r (R62). -/
def Entry.isPublishedOf (r : RecNo) : Entry → Bool
  | .published r' _ _ _ => r' = r
  | _ => false

/-- The unread PUBLISHED entry for r takes the new version and cycle number, and its count rises by one, saturating at 255;
another entry stays (R62). -/
def Entry.coalesce (r : RecNo) (version : BitVec 16) (cycle : Byte) : Entry → Entry
  | .published r' v c n => if r' = r then .published r' version cycle (min Config.countMax (n + 1)) else .published r' v c n
  | e => e

/-- An entry that neither the mask discards nor coalescing absorbs: it joins at the tail, or, in a full queue, is discarded and
counted lost, and OVERFLOW is set (R63). -/
def PortState.join (p : PortState) (e : Entry) : PortState :=
  if p.queue.length < Config.queueCapacity then { p with queue := p.queue ++ [e] }
  else { p with lost := min Config.countMax (p.lost + 1), overflow := true }

/-- A queue takes an entry it is handed (R61 to R63). -/
def PortState.accept (p : PortState) (e : Entry) : PortState :=
  if p.masks e then p
  else match e with
    | .published r v c _ =>
      if p.queue.any (Entry.isPublishedOf r) then { p with queue := p.queue.map (Entry.coalesce r v c) } else p.join e
    | _ => p.join e

/-- Handing an entry to the queue of port n. -/
def State.hand (s : State) (n : Port) (e : Entry) : State := s.modPort n (·.accept e)

/-- Handing an entry to the queue of each port of a set. -/
def State.handAll (s : State) (ports : PortSet) (e : Entry) : State :=
  allPorts.foldl (fun s n => if ports.getLsbD n.val then s.hand n e else s) s

/-- The four queues. -/
def everyPort : PortSet := 0b1111#4

/-- A BALLOT note, to each member (R61, R124). -/
def State.ballotNote (s : State) (i : Item) (o : BallotOutcome) : State :=
  s.handAll s.members (.ballot s.tb.cycleNumber i o)

/-- A SWITCH note, to the four queues (R139). -/
def State.switchNote (s : State) (d : SwitchDetail) : State := s.handAll everyPort (.switch s.tb.cycleNumber d)

/-- An EXCHANGE note for the state now standing, to the four queues (R111). -/
def State.exchangeNote (s : State) : State := s.handAll everyPort (.exchange s.tb.cycleNumber s.exchange)

/-- A TIMEBASE note for the discipline now standing, to the four queues (R156). -/
def State.timebaseNote (s : State) : State := s.handAll everyPort (.timebase s.tb.cycleNumber s.tb.discipline)

/-- Queue and attention state as power-on, RESET_N and PORT RESET leave it: queue empty, lost count 0, sticky causes clear,
enables, watermark and mask at their defaults (R73, R75). -/
def PortState.resetAttention (p : PortState) : PortState :=
  { p with queue := [], lost := 0, overflow := false, xfer := false, frame := false, enables := Config.defaultEnables,
           watermark := Config.defaultWatermark, noteMask := Config.defaultMask }

/-- The empty descriptor (R77). -/
def FetchDesc.none : FetchDesc := ⟨.none, 0, 0, .unpublished, 0, 0⟩

/-- Both windows zero and the descriptor NONE (R97). -/
def PortState.resetWindows (p : PortState) : PortState :=
  { p with writeWindow := Vector.replicate 32 0, readWindow := Vector.replicate 32 0, desc := FetchDesc.none }

end Sys2Proof.Machine
end

