-- ==== Sys2Proof/Machine/Runtime.lean ====
section
/-! DEFINITION. A record's runtime: buffer roles, the five claims of the Transfer Engine, rotation, leaving BLOCKED (02), and the
outcome of a publication point (03). -/

namespace Sys2Proof.Machine

/-- A runtime's initial values (R7, R22). -/
def Runtime.initial : Runtime where
  version := 0
  health := .unpublished
  missCount := 0
  lastCycle := 0
  staging := .empty
  roles := #v[.pub, .stg, .retired]
  pins := #v[0, 0, 0]
  stageWaiting := false

/-- The PUB buffer; a record has exactly one (R22). -/
def Runtime.pubBuf (rt : Runtime) : Buf := (allBuffers.find? fun b => rt.roles[b] = .pub).getD 0

/-- The STG buffer; none exactly while BLOCKED (R22). -/
def Runtime.stgBuf (rt : Runtime) : Option Buf := allBuffers.find? fun b => rt.roles[b] = .stg

/-! ## Claims (02 section 2.3) -/

/-- Stage start (R26): from EMPTY or READY the staging becomes FILLING; on a BLOCKED record stage waiting becomes yes. -/
def Runtime.stageStart (rt : Runtime) : Runtime :=
  match rt.staging with
  | .empty | .ready => { rt with staging := .filling }
  | .blocked => { rt with stageWaiting := true }
  | .filling => rt

/-- Stage end (R27): FILLING becomes READY. -/
def Runtime.stageEnd (rt : Runtime) : Runtime :=
  if rt.staging = .filling then { rt with staging := .ready } else rt

/-- Stage abort of an ACTIVE STAGE (R28): FILLING becomes EMPTY. -/
def Runtime.abortActive (rt : Runtime) : Runtime :=
  if rt.staging = .filling then { rt with staging := .empty } else rt

/-- Stage abort of a WAITING STAGE (R28): stage waiting returns to no. -/
def Runtime.abortWaiting (rt : Runtime) : Runtime := { rt with stageWaiting := false }

/-- Pin (R29): the PUB buffer's count rises by one. -/
def Runtime.pin (rt : Runtime) : Runtime := { rt with pins := rt.pins.set rt.pubBuf (rt.pins[rt.pubBuf] + 1) }

/-- Leaving BLOCKED (R34): the released buffer becomes STG; staging becomes FILLING if a STAGE was waiting, EMPTY if not. -/
def Runtime.leaveBlocked (rt : Runtime) (b : Buf) : Runtime :=
  { rt with roles := rt.roles.set b .stg, stageWaiting := false,
            staging := if rt.stageWaiting then .filling else .empty }

/-- An unpin of buffer b brings the record out of BLOCKED (R30, R34). -/
def Runtime.unpinFrees (rt : Runtime) (b : Buf) : Bool :=
  rt.staging = .blocked && rt.roles[b] = .retired && rt.pins[b] - 1 = 0

/-- Unpin (R30): the pinned buffer's count falls by one; a RETIRED buffer brought to 0 takes a BLOCKED record out of BLOCKED. -/
def Runtime.unpin (rt : Runtime) (b : Buf) : Runtime :=
  let lowered := { rt with pins := rt.pins.set b (rt.pins[b] - 1) }
  if rt.unpinFrees b then lowered.leaveBlocked b else lowered

/-! ## Rotation (02 section 2.4) -/

/-- The roles after steps 1 and 2 of a rotation (R31): the buffer that was PUB is RETIRED, the one that was STG is PUB. -/
def Runtime.turnedRoles (rt : Runtime) (staged : Buf) : Vector Role 3 :=
  (rt.roles.set rt.pubBuf .retired).set staged .pub

/-- The choice of the new STG buffer (R32): the buffer that was PUB if it is unpinned, else the lowest-numbered unpinned RETIRED
buffer, else none. -/
def Runtime.nextStg (rt : Runtime) (staged : Buf) : Option Buf :=
  if rt.pins[rt.pubBuf] = 0 then some rt.pubBuf
  else allBuffers.find? fun b => (rt.turnedRoles staged)[b] = .retired && rt.pins[b] = 0

/-- Rotation (R31): with no STG buffer chosen the record becomes BLOCKED. -/
def Runtime.rotate (rt : Runtime) : Runtime :=
  match rt.stgBuf with
  | none => rt
  | some staged =>
    match rt.nextStg staged with
    | some b => { rt with roles := (rt.turnedRoles staged).set b .stg, staging := .empty }
    | none => { rt with roles := rt.turnedRoles staged, staging := .blocked }

/-! ## Publication and misses (03) -/

/-- The next version: 65535 is followed by 1 (R44). -/
def nextVersion (v : BitVec 16) : BitVec 16 := if v = 0xFFFF then 1 else v + 1

/-- A record is published (R43): rotation, next version, last cycle, miss count 0, FRESH. -/
def Runtime.publish (rt : Runtime) (cycle : Byte) : Runtime :=
  { rt.rotate with version := nextVersion rt.version, lastCycle := cycle, missCount := 0, health := .fresh }

/-- The raised miss count (R47). -/
def Runtime.raisedMisses (rt : Runtime) : Nat := min Config.missMax (rt.missCount + 1)

/-- This miss makes the record STALE (R47, R49). -/
def Runtime.missDeclares (rt : Runtime) (limit : Nat) : Bool := rt.health = .fresh && rt.raisedMisses = limit

/-- A miss (R47). -/
def Runtime.miss (rt : Runtime) (limit : Nat) : Runtime :=
  { rt with missCount := rt.raisedMisses, health := if rt.missDeclares limit then .stale else rt.health }

/-- The reason of a miss is the staging state the point found (R51). -/
def Staging.missReason : Staging → MissReason
  | .filling => .late
  | .blocked => .blocked
  | .empty | .ready => .empty

/-- A one-port set. -/
def portBit (n : Port) : PortSet := BitVec.twoPow 4 n.val

/-- The entries of a publication (R48): RECOVERED to the owner and then each subscriber if the record was STALE, then PUBLISHED
to each subscriber if publish notes is yes. -/
def State.publishEntries (s : State) (r : RecNo) (d : RecordDef) (before : Runtime) (cycle : Byte) : State :=
  let s1 := if before.health = .stale then
      (s.handAll (portBit d.owner) (.recovered r cycle)).handAll d.subscribers (.recovered r cycle)
    else s
  if d.publishNotes then s1.handAll d.subscribers (.published r (nextVersion before.version) cycle 1) else s1

/-- The entries of a miss (R50): MISSED to the owner if miss notes is yes, then STALE to the owner and each subscriber if the miss
made the record STALE. -/
def State.missEntries (s : State) (r : RecNo) (d : RecordDef) (before : Runtime) (cycle : Byte) : State :=
  let s1 := if d.missNotes then s.handAll (portBit d.owner) (.missed r cycle before.staging.missReason) else s
  if before.missDeclares d.missLimit then
    (s1.handAll (portBit d.owner) (.stale r cycle)).handAll d.subscribers (.stale r cycle)
  else s1

/-- Taking record r's publication point (03): READY publishes (R43); otherwise nothing for an UNPUBLISHED record (R46), a miss for
a FRESH or STALE one (R47). -/
def State.takePoint (s : State) (r : RecNo) : State :=
  match s.activeDef r, s.runtime r with
  | some d, some rt =>
    if rt.staging = .ready then
      (s.setRuntime r (rt.publish s.tb.cycleNumber)).publishEntries r d rt s.tb.cycleNumber
    else if rt.health = .unpublished then s
    else (s.setRuntime r (rt.miss d.missLimit)).missEntries r d rt s.tb.cycleNumber
  | _, _ => s

/-- Points are taken only while the exchange is RUN or STOPPING (R40). -/
def ExState.takesPoints : ExState → Bool
  | .run | .stopping => true
  | .init | .config | .armed | .hold | .halted => false

/-- Record r is selected at the tick in progress: defined, its point equal to the tick number, its phase the cycle number modulo
its period (R39). -/
def State.selectsPoint (s : State) (r : RecNo) : Bool :=
  match s.activeDef r with
  | some d => d.point = s.tb.tickCount && s.tb.cycleNumber.toNat % d.period = d.phase
  | none => false

/-- The points of the tick in progress, in ascending record number, each against the exchange state standing then (R39, R40). -/
def State.takePoints (s : State) : State :=
  allRecords.foldl (fun s r => if s.exchange.takesPoints && s.selectsPoint r then s.takePoint r else s) s

end Sys2Proof.Machine
end

