-- ==== Sys2Proof/Machine/Lanes.lean ====
section
/-! DEFINITION. The lanes of the Transfer Engine: claims handed to a record's runtime, the start of a waiting STAGE, aborts, and
one word access (05). -/

namespace Sys2Proof.Machine

/-- Changing a record's runtime where it has one. -/
def State.modRuntime (s : State) (r : RecNo) (f : Runtime → Runtime) : State :=
  match s.runtime r with
  | some rt => s.setRuntime r (f rt)
  | none => s

/-- The lane becomes IDLE with this transfer result (R81). -/
def State.endTransfer (s : State) (l : LaneNo) (res : TransferResult) : State := s.setLane l ⟨.idle, res⟩

/-- Setting port n's XFER cause (R67). -/
def State.setXfer (s : State) (n : Port) : State := s.modPort n fun p => { p with xfer := true }

/-- The descriptor of port n takes a state (R88, R89, R92, R93). -/
def State.setDescState (s : State) (n : Port) (d : DescState) : State :=
  s.modPort n fun p => { p with desc := { p.desc with state := d } }

/-- LM reports the end of its fetch to the Maintenance Line Interface; a DATA PEEK already discarded is told nothing (R90, R178). -/
def State.reportPeek (s : State) (st : PeekStatus) : State :=
  s.setMl { s.ml with dataPeek := s.ml.dataPeek.map fun d => { d with status := st } }

/-- A WAITING STAGE on record r held by lane l becomes ACTIVE with word index 0 (R86). -/
def State.startWaiting (s : State) (l : LaneNo) (r : RecNo) : State :=
  if (s.lane l).hold = .waiting r then s.setLane l { s.lane l with hold := .staging r 0 } else s

/-- An unpin claim for buffer b of record r (R30); where it frees a BLOCKED record whose owner's STAGE waits, that lane starts at
the same moment (R34, R86). -/
def State.unpinClaim (s : State) (r : RecNo) (b : Buf) : State :=
  match s.runtime r, s.activeDef r with
  | some rt, some d =>
    let s1 := s.setRuntime r (rt.unpin b)
    if rt.unpinFrees b && rt.stageWaiting then s1.startWaiting (laneOf d.owner) r else s1
  | some rt, none => s.setRuntime r (rt.unpin b)
  | none, _ => s

/-- The transfer a lane holds, by its record (R80). -/
def Hold.record : Hold → Option RecNo
  | .idle => none
  | .waiting r | .staging r _ | .fetching r _ _ => some r

/-- A lane that holds a STAGE, ACTIVE or WAITING. -/
def Hold.isStage : Hold → Bool
  | .waiting _ | .staging _ _ => true
  | .idle | .fetching _ _ _ => false

/-- A lane that holds a FETCH. -/
def Hold.isFetch : Hold → Bool
  | .fetching _ _ _ => true
  | .idle | .waiting _ | .staging _ _ => false

/-! ## Aborts (05 section 5.6) -/

/-- An abort by a switch or by CLEAR: IDLE with the result, no claim; a port lane sets XFER, and marks the descriptor of a FETCH
ABORTED; LM reports the abort (R92, R93). -/
def State.abortLane (s : State) (l : LaneNo) (res : TransferResult) : State :=
  let s1 := s.endTransfer l res
  match portOf l with
  | some n => if (s.lane l).hold.isFetch then (s1.setXfer n).setDescState n .aborted else s1.setXfer n
  | none => s1.reportPeek .aborted

/-- Aborting every lane whose held transfer satisfies a condition. -/
def State.abortLanes (s : State) (res : TransferResult) (on : RecNo → Bool) : State :=
  allLanes.foldl (fun s l => if (s.lane l).hold.record.any on then s.abortLane l res else s) s

/-- The stage-abort claim of a lane that holds a STAGE (R28). -/
def State.stageAbortClaim (s : State) (l : LaneNo) : State :=
  match (s.lane l).hold with
  | .staging r _ => s.modRuntime r Runtime.abortActive
  | .waiting r => s.modRuntime r Runtime.abortWaiting
  | .idle | .fetching _ _ _ => s

/-- FREEZE aborts every port lane that holds a STAGE: stage-abort claim, IDLE with ABORTED_FREEZE, XFER set (R91). -/
def State.freezeAborts (s : State) : State :=
  allPorts.foldl (fun s n =>
    if (s.lane (laneOf n)).hold.isStage then
      ((s.stageAbortClaim (laneOf n)).endTransfer (laneOf n) .abortedFreeze).setXfer n
    else s) s

/-- PORT RESET aborts lane Ln: its stage-abort or unpin claim, then IDLE with result NONE, XFER not set (R94). -/
def State.portResetAbort (s : State) (n : Port) : State :=
  match (s.lane (laneOf n)).hold with
  | .fetching r _ b => (s.endTransfer (laneOf n) .none).unpinClaim r b
  | .idle | .waiting _ | .staging _ _ => (s.stageAbortClaim (laneOf n)).endTransfer (laneOf n) .none

/-! ## The store arbiter (R82) -/

/-- A lane has a word left to move: it is ACTIVE and its word index is below the record's length, as it is between the steps of a
run (log entry 11). -/
def State.wantsAccess (s : State) (l : LaneNo) : Bool :=
  match (s.lane l).hold with
  | .staging r i => (s.activeDef r).any (i < ·.length) && ((s.runtime r).bind Runtime.stgBuf).isSome && (portOf l).isSome
  | .fetching r i _ => (s.activeDef r).any (i < ·.length)
  | .idle | .waiting _ => false

/-- The lanes in the cyclic order that begins after the lane granted last. -/
def grantOrder (last : LaneNo) : List LaneNo := [last + 1, last + 2, last + 3, last + 4, last]

/-- The lane granted next (R82): the first ACTIVE lane that follows the lane granted last in the cyclic order. -/
def State.nextGrant (s : State) : Option LaneNo := (grantOrder s.arbiter).find? s.wantsAccess

/-- The address of word i of buffer b of a record (R4, R19). -/
def RecordDef.address (d : RecordDef) (b : Buf) (i : Nat) : Nat := d.base + b.val * d.length + i

/-- Word i of a window. -/
def windowWord (w : Vector Word 32) (i : Nat) : Word := (w[i]?).getD 0

/-- A window with word i set. -/
def windowSet (w : Vector Word 32) (i : Nat) (x : Word) : Vector Word 32 := w.setIfInBounds i x

/-- A STAGE's access: the word goes from the write window to the STG buffer (R19, R82). -/
def State.stageWord (s : State) (l : LaneNo) (n : Port) (r : RecNo) (i a : Nat) : State :=
  { s.setLane l { s.lane l with hold := .staging r (i + 1) } with
    store := s.store.write a (windowWord (s.port n).writeWindow i) }

/-- A FETCH's access: the word goes from the pinned buffer to the read window, or to the peek buffer for LM (R82, R90). -/
def State.fetchWord (s : State) (l : LaneNo) (r : RecNo) (i : Nat) (b : Buf) (a : Nat) : State :=
  let s1 := s.setLane l { s.lane l with hold := .fetching r (i + 1) b }
  match portOf l with
  | some n => s1.modPort n fun p => { p with readWindow := windowSet p.readWindow i (s.store.read a) }
  | none => s1.setMl { s.ml with peekBuf := windowSet s.ml.peekBuf i (s.store.read a) }

/-- The store address of a lane's next access, and the state after it. -/
def State.access (s : State) (l : LaneNo) : Option (Nat × State) :=
  match (s.lane l).hold with
  | .staging r i =>
    match s.activeDef r, (s.runtime r).bind Runtime.stgBuf, portOf l with
    | some d, some b, some n => some (d.address b i, s.stageWord l n r i (d.address b i))
    | _, _, _ => none
  | .fetching r i b =>
    match s.activeDef r with
    | some d => some (d.address b i, s.fetchWord l r i b (d.address b i))
    | none => none
  | .idle | .waiting _ => none

end Sys2Proof.Machine
end

