-- ==== Sys2Proof/Machine/Control.lean ====
section
/-! DEFINITION. What the Exchange Controller and the Timebase do as parts of other steps: resets of the table and of the Timebase,
the close of a ballot, a change of exchange state, a switch, an entry to CONFIG or INIT, a report of the discipline, a cycle
start (06, 07, 08, 09). -/

namespace Sys2Proof.Machine

/-! ## Timebase stop and restart (R143) -/

/-- The discipline a restart sets, by the mode (R143). -/
def Mode.discipline : Mode → Discipline
  | .master => .master
  | .follower => .seek

/-- The values that a stop and a restart set (R143); a restart then runs. -/
def Timebase.fresh (mode : Mode) (running : Bool) : Timebase where
  running := running
  tickCount := 0
  tickHanded := false
  cycleNumber := 0
  trim := 0
  discipline := mode.discipline
  acquireRun := 0
  lockRun := 0
  missedRun := 0
  holdoverCount := 0
  startCredit := false
  nextCredit := false
  spurious := 0
  missedMade := false
  syncOut := false
  syncOutAge := 0

/-- The Timebase stops (R143). -/
def State.stopTimebase (s : State) : State := s.setTb (.fresh s.active.header.mode false)

/-- The Timebase restarts (R100, R137, R143). -/
def State.restartTimebase (s : State) : State := s.setTb (.fresh s.active.header.mode true)

/-! ## Table reset (R6, R18) -/

/-- The header after a header reset (R5, R6). -/
def OptionStore.resetHeader (o : OptionStore) : SchedHeader where
  mode := o.mode
  cycleTicks := o.cycleTicks
  acqTol := 20
  lockTol := 2
  nAcq := 4
  nLock := 16
  holdoverLimit := 32
  syncWin := 100
  ballotTime := 50

/-- An image of undefined records. -/
def Image.undefined (h : SchedHeader) : Image := ⟨Vector.replicate 128 none, h⟩

/-- The table reset (R18): both images undefined with reset headers, every runtime discarded. -/
def State.resetTable (s : State) : State :=
  { s with active := Image.undefined s.opt.resetHeader, shadow := Image.undefined s.opt.resetHeader,
           runtimes := Vector.replicate 128 none }

/-! ## Ballots (07) -/

/-- The exchange states that allow an item (R114). -/
def Item.allowedIn : Item → ExState → Bool
  | .start, .config => true
  | .stop, .armed | .stop, .run | .stop, .hold => true
  | .commit, .config | .commit, .armed | .commit, .run | .commit, .hold => true
  | .release, .halted => true
  | .clear, .config | .clear, .halted => true
  | _, _ => false

/-- The close of a ballot, all but the effect of a pass (R124): the last outcome, the record back to NONE, the BALLOT note to the
members. The shadow's lock follows from the record and the switch-pending flag (R2). -/
def State.closeBallot (s : State) (b : OpenBallot) (o : BallotOutcome) (reason : Reason) (r : RecNo) : State :=
  (s.setBallot ⟨none, ⟨some b.item, some o, reason, r⟩⟩).ballotNote b.item o

/-- The open ballot closes CANCELLED if this exchange state does not allow its item (R122). -/
def State.cancelDisallowed (s : State) (x : ExState) : State :=
  match s.ballot.current with
  | some b => if b.item.allowedIn x then s else s.closeBallot b .cancelled .none 0
  | none => s

/-- A change of exchange state: a ballot it disallows is cancelled, the state is set, the EXCHANGE note is handed (R107, R111,
R122). -/
def State.changeExchange (s : State) (x : ExState) : State := ((s.cancelDisallowed x).setExchange x).exchangeNote

/-! ## Shadow validation (R15 to R17) -/

/-- The first word after a record's group (R4). -/
def RecordDef.groupEnd (d : RecordDef) : Nat := d.base + 3 * d.length

/-- The groups of two records share a word (R17). -/
def RecordDef.overlaps (d e : RecordDef) : Bool := d.base < e.groupEnd && e.base < d.groupEnd

/-- Record i overlaps a higher-numbered defined record. -/
def Image.overlapsLater (im : Image) (i : RecNo) : Bool :=
  match im.defs[i] with
  | some d => allRecords.any fun j => i < j && (im.defs[j]).any d.overlaps
  | none => false

/-- The lowest-numbered record of an overlapping pair (R17). -/
def Image.overlapRecord (im : Image) : Option RecNo := allRecords.find? im.overlapsLater

/-- The lowest-numbered defined record whose point is at or above the cycle ticks (R17). -/
def Image.beyondRecord (im : Image) : Option RecNo :=
  allRecords.find? fun r => (im.defs[r]).any fun d => im.header.cycleTicks ≤ d.point

/-- All timebase fields of two headers agree; ballot time is not a timebase field (R5). -/
def SchedHeader.sameTimebase (h k : SchedHeader) : Bool :=
  h.mode = k.mode && h.cycleTicks = k.cycleTicks && h.acqTol = k.acqTol && h.lockTol = k.lockTol && h.nAcq = k.nAcq
    && h.nLock = k.nLock && h.holdoverLimit = k.holdoverLimit && h.syncWin = k.syncWin

/-- The tolerances are in order (R16, check 4). -/
def SchedHeader.toleranceOk (h : SchedHeader) : Bool :=
  h.lockTol ≤ h.acqTol && h.acqTol < h.syncWin && 4 * h.syncWin < h.cycleTicks

/-- Validation of the shadow (R16): the first check that fails, with the record it names, or none. -/
def State.validate (s : State) : Option (Reason × RecNo) :=
  match s.shadow.overlapRecord with
  | some i => some (.overlap, i)
  | none =>
    match s.shadow.beyondRecord with
    | some r => some (.pointBeyondCycle, r)
    | none =>
      if s.exchange ≠ .config && !s.shadow.header.sameTimebase s.active.header then some (.timebaseLocked, 0)
      else if !s.shadow.header.toleranceOk then some (.toleranceOrder, 0)
      else none

/-! ## Schedule switch (08) -/

/-- What a switch does to a record (R130). -/
inductive RecClass where
  | kept | reset | dropped | absent
deriving DecidableEq, Repr

/-- The class of a record, by its definitions in the active and the shadow image (R130). -/
def classify (active shadow : Option RecordDef) : RecClass :=
  match active, shadow with
  | some a, some b => if a.owner = b.owner && a.length = b.length && a.base = b.base then .kept else .reset
  | none, some _ => .reset
  | some _, none => .dropped
  | none, none => .absent

/-- The class of record r at a switch applied now. -/
def State.recClass (s : State) (r : RecNo) : RecClass := classify (s.activeDef r) (s.shadowDef r)

/-- The switch resets or drops record r (R92). -/
def State.switchAborts (s : State) (r : RecNo) : Bool := s.recClass r = .reset || s.recClass r = .dropped

/-- A record's runtime after a switch (R131 to R133). -/
def RecClass.runtime (c : RecClass) (rt : Option Runtime) : Option Runtime :=
  match c with
  | .kept => rt.map fun x => { x with missCount := 0 }
  | .reset => some Runtime.initial
  | .dropped | .absent => none

/-- Steps 3 to 5 of R134: the shadow is copied into the active image, the runtimes are set, the flag is cleared. -/
def State.installShadow (s : State) : State :=
  { s with active := s.shadow, runtimes := Vector.ofFn fun r => (s.recClass r).runtime (s.runtime r),
           switchPending := false }

/-- Applying a switch (R134): aborts, copy, runtimes, flag, the restart of R137 in CONFIG, the SWITCH note DONE. -/
def State.applySwitch (s : State) : State :=
  let s1 := (s.abortLanes .abortedSwitch s.switchAborts).installShadow
  let s2 := if s.exchange = .config && !s.shadow.header.sameTimebase s.active.header then s1.restartTimebase else s1
  s2.switchNote .done

/-- Entry to CONFIG from a state in which a switch can be pending: the switch is applied first (R101). -/
def State.enterConfig (s : State) : State :=
  (if s.switchPending then s.applySwitch else s).changeExchange .config

/-! ## Entry to INIT (R99) -/

/-- Entry to INIT: the state, the table reset, the store clear begun, the Timebase stopped, the EXCHANGE note for INIT. -/
def State.enterInit (s : State) : State :=
  ({ s.setExchange .init with clearing := true }).resetTable.stopTimebase.exchangeNote

/-- All four queues are emptied and every lost count becomes 0 (R74). -/
def State.emptyQueues (s : State) : State :=
  allPorts.foldl (fun s n => s.modPort n fun p => { p with queue := [], lost := 0 }) s

/-- The passing of CLEAR after its ballot has closed (R109): every lane aborted, the queues emptied, INIT entered. The flag is
clear afterwards (R129). -/
def State.passClear (s : State) : State :=
  ({ (s.abortLanes .abortedClear fun _ => true).emptyQueues with switchPending := false }).enterInit

/-! ## FREEZE (R106, R107) -/

/-- A pending switch is dropped (R138). -/
def State.dropSwitch (s : State) : State :=
  if s.switchPending then ({ s with switchPending := false }).switchNote .dropped else s

/-- A FREEZE taken in a state other than INIT: nothing in HALTED; elsewhere the five effects of R107 in order. -/
def State.freezeExchange (s : State) : State :=
  if s.exchange = .halted then s
  else (((s.freezeAborts.cancelDisallowed .halted).dropSwitch).setExchange .halted).exchangeNote

/-! ## Effect of a passed ballot (R125) -/

/-- The effect of a passed item. -/
def State.passEffect (s : State) (i : Item) : State :=
  match i with
  | .start => s.changeExchange .armed
  | .stop => if s.exchange = .run then s.changeExchange .stopping else s.enterConfig
  | .commit => if s.exchange = .config then s.applySwitch else { s with switchPending := true }
  | .release => s.enterConfig
  | .clear => s.passClear

/-- The members whose vote is v. -/
def State.votesCast (s : State) (b : OpenBallot) (v : Vote) : Nat :=
  (allPorts.filter fun n => s.isMember n && b.votes[n] = v).length

/-- The YES votes STOP needs: the smallest number greater than M/2 (R120). -/
def State.majority (s : State) : Nat := s.memberCount / 2 + 1

/-- What the item's rule decides on the votes as they stand: pass, fail with a reason, or nothing (R119, R120). -/
def State.decision (s : State) (b : OpenBallot) : Option (BallotOutcome × Reason) :=
  if b.item = .stop then
    if s.majority ≤ s.votesCast b .yes then some (.passed, .none)
    else if s.memberCount - s.votesCast b .no < s.majority then some (.failed, .majorityLost)
    else none
  else if 0 < s.votesCast b .no then some (.failed, .veto)
  else if s.votesCast b .yes = s.memberCount then some (.passed, .none)
  else none

/-- The open ballot closes in this step if its rule decides (R118). DESIGN CHOICE (log entry 29): where a CLEAR passes, a BALLOT note
that a member's full queue discards sets OVERFLOW (R63, R124), and it stays set through the CLEAR, of which R74 and R169 say that it
leaves OVERFLOW unchanged. -/
def State.settleBallot (s : State) : State :=
  match s.ballot.current with
  | none => s
  | some b =>
    match s.decision b with
    | none => s
    | some (o, reason) =>
      let s1 := s.closeBallot b o reason 0
      if o = .passed then s1.passEffect b.item else s1

/-! ## The discipline's reports and the cycle start (R105, R142, R145, R155, R156) -/

/-- A change of discipline is reported (R156): the TIMEBASE note; an entry to SEEK or ACQUIRE moves RUN to HOLD and STOPPING to
CONFIG. -/
def State.reportDiscipline (s : State) : State :=
  let s1 := s.timebaseNote
  if s.tb.discipline = .seek || s.tb.discipline = .acquire then
    if s.exchange = .run then s1.changeExchange .hold
    else if s.exchange = .stopping then s1.enterConfig
    else s1
  else s1

/-- A change of discipline, with its report where the state changes (R156). -/
def State.changeDiscipline (s : State) (tb : Timebase) : State :=
  if tb.discipline = s.tb.discipline then s.setTb tb else (s.setTb tb).reportDiscipline

/-- The states in which a cycle start applies a pending switch (R105). -/
def ExState.switchesAtCycleStart : ExState → Bool
  | .armed | .run | .hold | .stopping => true
  | .init | .config | .halted => false

/-- The disciplines at which a cycle start drives SYNCOUT (R145). -/
def Discipline.drivesSyncOut : Discipline → Bool
  | .master | .locked | .holdover => true
  | .seek | .acquire | .track => false

/-- The Timebase at a cycle start: tick count 0, the cycle number one higher, SYNCOUT driven by the discipline standing (R142,
R145). -/
def Timebase.nextCycle (tb : Timebase) (startCredit : Bool) : Timebase :=
  { tb with tickCount := 0, tickHanded := false, cycleNumber := tb.cycleNumber + 1, startCredit := startCredit,
            nextCredit := false, missedMade := false, syncOut := tb.syncOut || tb.discipline.drivesSyncOut,
            syncOutAge := if tb.discipline.drivesSyncOut then 0 else tb.syncOutAge }

/-- The move of the exchange state at a cycle start (R105, step 2). -/
def State.cycleStartMove (s : State) : State :=
  match s.exchange with
  | .stopping => s.changeExchange .config
  | .armed => if s.tb.discipline = .master || s.tb.discipline = .locked then s.changeExchange .run else s
  | .hold => if s.tb.discipline = .locked then s.changeExchange .run else s
  | .init | .config | .run | .halted => s

/-- The Exchange Controller's work on a cycle start (R105): a pending switch, then the state. The tick-0 points follow at the
TICK that hands tick 0. -/
def State.cycleStartWork (s : State) : State :=
  (if s.switchPending && s.exchange.switchesAtCycleStart then s.applySwitch else s).cycleStartMove

/-- A phase step (R155): the discipline enters ACQUIRE and is reported, then the cycle restarts at the pulse. `tb` is the Timebase
after the pulse's correction. -/
def State.phaseStep (s : State) (tb : Timebase) : State :=
  let s1 := s.changeDiscipline { tb with discipline := .acquire, acquireRun := 0, missedRun := 0 }
  (s1.setTb (s1.tb.nextCycle true)).cycleStartWork

end Sys2Proof.Machine
end

