-- ==== Sys2Proof/Machine/Frames.lean ====
section
/-! DEFINITION. The frames of a host port: chip select, the arrival of a header, discarded frames, and the two ways a request
answers (10). -/

namespace Sys2Proof.Machine

/-! ## Shared operations -/

/-- Port n's last result (R165). -/
def State.setResult (s : State) (n : Port) (r : Result) : State := s.modPort n fun p => { p with lastResult := r }

/-- A read kind is taken or refused (R162): the parser goes to RESPOND, the last result is set, and the response bytes are formed
with their check byte. -/
def State.respond (s : State) (n : Port) (r : Result) (bytes : List Byte) : State :=
  s.modPort n fun p => { p with parser := .respond, byteCount := 5, lastResult := r, responseOut := withCheck bytes }

/-- The release of chip select returns the parser to WAIT (R159). -/
def PortState.released (p : PortState) : PortState :=
  { p with selected := false, parser := .wait, summaryOut := [], responseOut := [] }

/-- `k` more whole bytes of the frame are counted (R159). -/
def PortState.countBytes (p : PortState) (k : Nat) : PortState := { p with byteCount := p.byteCount + k }

/-- The frame of port n ends at the release, `k` bytes after its header, with this last result (R163). -/
def State.endFrame (s : State) (n : Port) (r : Result) (k : Nat) : State :=
  s.modPort n fun p => { (p.countBytes k).released with lastResult := r }

/-- A write kind at the release of its frame (R163): refused with a result, or taken with its effect and the result OK. -/
def writeKind (s : State) (n : Port) (code : Byte) (params after : List Byte) (refusal : Option Result) (effect : State) :
    Answer :=
  ifDue (s.writeFrameOn n code params after) s
    (match refusal with
      | some r => s.endFrame n r after.length
      | none => effect.endFrame n .ok after.length)

/-- The check that comes first for every kind but STATUS and PORT RESET: NOT_READY in INIT (R166). -/
def State.notReady (s : State) : Option Result := if s.exchange = .init then some .notReady else none

/-- A check that refuses with a result. -/
def refuseIf (c : Bool) (r : Result) : Option Result := if c then some r else none

/-! ## Commands -/

/-- CHIP_SELECT_ASSERT (R159, R161): the parser goes from WAIT to HEADER and the summary is formed. While power is off or RESET_N
is low no frame begins, and the assertion is ignored to its release (R158). -/
def execChipSelectAssert (n : Port) (s : State) : Answer :=
  ifDue (!(s.port n).selected) s
    (if s.live then
      s.modPort n fun p =>
        { p with selected := true, parser := .header, byteCount := 0, summaryOut := s.summaryBytes n, responseOut := [] }
    else s.modPort n fun p => { p with selected := true })

/-- A fifth header byte that names no read kind moves the parser only (R159): to PAYLOAD for a write kind with a valid hcheck, to
DRAIN for a bad hcheck. -/
def State.takeHeader (s : State) (n : Port) (h : FrameHeader) : State :=
  s.modPort n fun p => { p with parser := if h.valid then .payload h else .drain true, byteCount := 5 }

/-- UNKNOWN_CODE (R164): last result UNKNOWN, FRAME set, the parser to DRAIN. -/
def execUnknownCode (n : Port) (h : FrameHeader) (s : State) : Answer :=
  ifDue (s.headerOn n && h.valid && !readCodes.contains h.code && !writeCodes.contains h.code) s
    (s.modPort n fun p =>
      { p with parser := .drain false, byteCount := 5, lastResult := .unknown, frame := true })

/-- FRAME_DISCARD (R164): last result CHECK, FRAME set, nothing else. -/
def execFrameDiscard (n : Port) (bytes : List Byte) (partialBits : Nat) (s : State) : Answer :=
  ifDue (s.discardOn n bytes partialBits) s
    (s.modPort n fun p => { (p.countBytes bytes.length).released with lastResult := .check, frame := true })

/-- CHIP_SELECT_RELEASE (R159, R162, R164): the parser returns to WAIT with no other effect. -/
def execChipSelectRelease (n : Port) (s : State) : Answer :=
  ifDue (s.plainReleaseOn n) s (s.modPort n PortState.released)

/-- STATUS (R167): taken in every state; the block shows the last result before this STATUS. -/
def execStatus (n : Port) (s : State) : Answer :=
  ifDue (s.headerOn n) s (s.respond n .ok (s.statusBytes n))

end Sys2Proof.Machine
end

