-- ==== Sys2Proof/Machine/Ballots.lean ====
section
/-! DEFINITION. VOTE, READ BALLOT, the ballot timer, FREEZE, PORT RESET and the standalone SWITCH (06, 07, 08, R168). -/

namespace Sys2Proof.Machine

/-- READ BALLOT (R126). -/
def execReadBallot (n : Port) (s : State) : Answer :=
  ifDue (s.headerOn n) s
    (match s.notReady with
      | some x => s.respond n x (zeros 12)
      | none => s.respond n .ok s.ballotBytes)

/-- Checks 4 to 7 of VOTE, for valid codes (R115). -/
def State.voteCodesCheck (s : State) (n : Port) (i : Item) (v : Vote) : Option Result :=
  (((refuseIf (s.openItem.any (· != i)) .ballotBusy).or
    (refuseIf (!i.allowedIn s.exchange) .wrongState)).or
    (refuseIf (v = .no && s.ballot.current.isNone) .noBallot)).or
    (refuseIf (s.ballot.current.any fun b => b.votes[n] != Vote.none) .alreadyVoted)

/-- The checks of VOTE, in order (R115). -/
def State.voteCheck (s : State) (n : Port) (item choice : Byte) : Option Result :=
  ((refuseIf (!s.isMember n) .notMember).or s.notReady).or
    (match item? item, choice? choice with
      | some i, some v => s.voteCodesCheck n i v
      | _, _ => some .range)

/-- The ballot a YES of port n opens (R116). -/
def State.newBallot (s : State) (n : Port) (i : Item) : OpenBallot where
  item := i
  votes := (Vector.replicate 4 Vote.none).set n .yes
  opener := n
  elapsed := 0
  limit := s.active.header.ballotTime

/-- Opening a ballot (R116, R117): a COMMIT whose validation fails closes at once as FAILED; otherwise the rule is evaluated. -/
def State.openBallot (s : State) (n : Port) (i : Item) : State :=
  let s1 := s.setBallot { s.ballot with current := some (s.newBallot n i) }
  match (if i = .commit then s1.validate else none) with
  | some (reason, r) => s1.closeBallot (s.newBallot n i) .failed reason r
  | none => s1.settleBallot

/-- A vote taken: it opens a ballot or is recorded in the open one (R116, R118). -/
def State.takeVote (s : State) (n : Port) (i : Item) (v : Vote) : State :=
  match s.ballot.current with
  | none => s.openBallot n i
  | some b => (s.setBallot { s.ballot with current := some { b with votes := b.votes.set n v } }).settleBallot

/-- VOTE (R115 to R120, R124, R125). -/
def execVote (n : Port) (item choice : Byte) (s : State) : Answer :=
  writeKind s n 0x34 [item, choice] [] (s.voteCheck n item choice)
    (match item? item, choice? choice with
      | some i, some v => s.takeVote n i v
      | _, _ => s)

/-- BALLOT_TIMER_TICK (R121): elapsed time rises by one, up to the time limit at which the ballot expires. -/
def execBallotTimerTick (s : State) : Answer :=
  match s.ballot.current with
  | some b =>
    ifDue (s.live && b.elapsed < b.limit) s
      (s.setBallot { s.ballot with current := some { b with elapsed := b.elapsed + 1 } })
  | none => .next s

/-- BALLOT_EXPIRY (R121): at the time limit the ballot closes EXPIRED. -/
def execBallotExpiry (s : State) : Answer :=
  match s.ballot.current with
  | some b => ifDue (s.live && b.limit ≤ b.elapsed) s (s.closeBallot b .expired .none 0)
  | none => .next s

/-- FREEZE from a port (R106, R107). -/
def execFreeze (n : Port) (s : State) : Answer := writeKind s n 0x40 [] [] s.notReady s.freezeExchange

/-- A member's vote in the open ballot returns to NONE, with no evaluation (R123). -/
def State.withdrawVote (s : State) (n : Port) : State :=
  match s.ballot.current with
  | some b =>
    if s.isMember n then
      s.setBallot { s.ballot with current := some { b with votes := b.votes.set n Vote.none } }
    else s
  | none => s

/-- PORT RESET of port n, all but its last result (R168): the lane first, then the queue, the windows and the attention state,
and the vote. -/
def State.resetPort (s : State) (n : Port) : State :=
  ((s.portResetAbort n).modPort n fun p => p.resetWindows.resetAttention).withdrawVote n

/-- PORT RESET (R168): taken in every state. -/
def execPortReset (n : Port) (s : State) : Answer := writeKind s n 0x4F [] [] none (s.resetPort n)

/-- A switch that is pending stands in CONFIG, where R101 and R135 apply it. In ARMED, RUN, HOLD and STOPPING it waits for the cycle
start, which applies it in its own step (R105, R135). -/
def State.switchDue (s : State) : Bool := s.switchPending && s.exchange = .config

/-- SWITCH (R134). CYCLE_START, VOTE, SYNC_PULSE and MISSED_PULSE_EVENT apply the switches they cause in their own step, at the moments
of R135; offered by itself the command applies a switch that those steps would have left pending in CONFIG (log entry 2). -/
def execSwitch (s : State) : Answer := ifDue (s.live && s.switchDue) s s.applySwitch

end Sys2Proof.Machine
end

