-- ==== Sys2Proof/Machine/Table.lean ====
section
/-! DEFINITION. The six request kinds on the record table (01 section 1.5). -/

namespace Sys2Proof.Machine

/-- The image a code names. -/
def State.image (s : State) : ImageSel → Image
  | .active => s.active
  | .shadow => s.shadow

/-- The response to READ RECORD and DEF PEEK: definition, then runtime block (R13). -/
def State.recordBytes (s : State) (i : ImageSel) (r : RecNo) : List Byte :=
  match i with
  | .active => defBytes (s.activeDef r) ++ runtimeBytes (s.runtime r)
  | .shadow => defBytes (s.shadowDef r) ++ zeros 10

/-- READ RECORD (R13): NOT_READY, RANGE, or the definition and the runtime block. -/
def execReadRecord (n : Port) (record image : Byte) (s : State) : Answer :=
  ifDue (s.headerOn n) s
    (match s.notReady, recNo? record, imageSel? image with
      | some x, _, _ => s.respond n x (zeros 22)
      | none, some r, some i => s.respond n .ok (s.recordBytes i r)
      | none, _, _ => s.respond n .range (zeros 22))

/-- READ HEADER (R14): NOT_READY, RANGE, or the header. -/
def execReadHeader (n : Port) (image : Byte) (s : State) : Answer :=
  ifDue (s.headerOn n) s
    (match s.notReady, imageSel? image with
      | some x, _ => s.respond n x (zeros 16)
      | none, some i => s.respond n .ok (headerBytes (s.image i).header)
      | none, none => s.respond n .range (zeros 16))

/-- The checks common to the four edits, before RANGE (R8). -/
def State.editCheck (s : State) (n : Port) : Option Result :=
  ((refuseIf (!s.isMember n) .notMember).or s.notReady).or (refuseIf s.shadowLocked .shadowLocked)

/-- One definition of the shadow image changes. -/
def State.setShadowDef (s : State) (r : RecNo) (d : Option RecordDef) : State :=
  s.setShadow { s.shadow with defs := s.shadow.defs.set r d }

/-- EDIT RECORD (R9). -/
def execEditRecord (n : Port) (record : Byte) (payload : Vector Byte 12) (pcheck : Byte) (s : State) : Answer :=
  writeKind s n 0x30 [record] (payload.toList ++ [pcheck])
    ((s.editCheck n).or (refuseIf ((recNo? record).isNone || (parseDef payload).isNone) .range))
    (match recNo? record, parseDef payload with
      | some r, some d => s.setShadowDef r (some d)
      | _, _ => s)

/-- DROP RECORD (R10). -/
def execDropRecord (n : Port) (record : Byte) (s : State) : Answer :=
  writeKind s n 0x31 [record] []
    ((s.editCheck n).or (refuseIf (recNo? record).isNone .range))
    (match recNo? record with
      | some r => s.setShadowDef r none
      | none => s)

/-- EDIT HEADER (R11). -/
def execEditHeader (n : Port) (payload : Vector Byte 16) (pcheck : Byte) (s : State) : Answer :=
  writeKind s n 0x32 [] (payload.toList ++ [pcheck])
    ((s.editCheck n).or (refuseIf (parseHeader payload).isNone .range))
    (match parseHeader payload with
      | some h => s.setShadow { s.shadow with header := h }
      | none => s)

/-- REVERT SHADOW (R12). -/
def execRevertShadow (n : Port) (s : State) : Answer :=
  writeKind s n 0x33 [] [] (s.editCheck n) (s.setShadow s.active)

end Sys2Proof.Machine
end

