-- ==== Sys2Proof/Machine/Transfer.lean ====
section
/-! DEFINITION. Windows, STAGE and FETCH, the store arbiter's grants and the ends of transfers (05). -/

namespace Sys2Proof.Machine

/-! ## Windows -/

/-- The words a READ WINDOW of this count returns: `count` words if it lies in 1..32, else none (R79). -/
def readWindowZeros (count : Byte) : List Byte :=
  zeros (7 + (if 1 ≤ count.toNat && count.toNat ≤ 32 then 4 * count.toNat else 0))

/-- READ WINDOW (R79). -/
def execReadWindow (n : Port) (offset count : Byte) (s : State) : Answer :=
  let p := s.port n
  ifDue (s.headerOn n) s
    (match (s.notReady.or (refuseIf (!windowRangeOk offset count) .range)).or
        (refuseIf (p.desc.state = .inProgress) .windowBusy) with
      | some x => s.respond n x (readWindowZeros count)
      | none => s.respond n .ok (descBytes p.desc ++ windowBytes p.readWindow offset.toNat count.toNat))

/-- Words written into a window from an offset on (R78). -/
def windowWrite (w : Vector Word 32) (offset : Nat) : List Word → Vector Word 32
  | [] => w
  | x :: xs => windowWrite (windowSet w offset x) (offset + 1) xs

/-- WRITE WINDOW (R78). -/
def execWriteWindow (n : Port) (offset count : Byte) (payload : List Byte) (pcheck : Byte) (s : State) : Answer :=
  writeKind s n 0x20 [offset, count] (payload ++ [pcheck])
    ((s.notReady.or (refuseIf (!windowRangeOk offset count) .range)).or
      (refuseIf (s.lane (laneOf n)).hold.isStage .windowBusy))
    (s.modPort n fun p => { p with writeWindow := windowWrite p.writeWindow offset.toNat (wordsOfBytes payload) })

/-! ## STAGE and FETCH -/

/-- The definition a record byte names in the active image; none above 127 or undefined (R83, R87). -/
def State.activeOf (s : State) (record : Byte) : Option RecordDef := (recNo? record).bind s.activeDef

/-- The checks of STAGE, in order (R83). -/
def State.stageCheck (s : State) (n : Port) (record : Byte) : Option Result :=
  (((s.notReady.or (refuseIf ((s.lane (laneOf n)).hold != Hold.idle) .busy)).or
    (refuseIf (s.activeOf record).isNone .undefined)).or
    (refuseIf (!(s.activeOf record).any fun d => d.owner = n) .notOwner)).or
    (refuseIf (s.exchange = .halted) .wrongState)

/-- STAGE r begins on lane Ln (R84): the stage-start claim, then ACTIVE with word index 0, or WAITING on a BLOCKED record. -/
def State.startStage (s : State) (n : Port) (r : RecNo) : State :=
  match s.runtime r with
  | some rt =>
    (s.setRuntime r rt.stageStart).setLane (laneOf n)
      { s.lane (laneOf n) with hold := if rt.staging = .blocked then .waiting r else .staging r 0 }
  | none => s

/-- STAGE (R83, R84). -/
def execStage (n : Port) (record : Byte) (s : State) : Answer :=
  writeKind s n 0x21 [record] [] (s.stageCheck n record)
    (match recNo? record with
      | some r => s.startStage n r
      | none => s)

/-- Record r's version is 0 (R87, R90). -/
def State.noData (s : State) (r : RecNo) : Bool := !(s.runtime r).any fun rt => rt.version != 0

/-- The checks of FETCH, in order (R87). -/
def State.fetchCheck (s : State) (n : Port) (record : Byte) : Option Result :=
  (((s.notReady.or (refuseIf ((s.lane (laneOf n)).hold != Hold.idle) .busy)).or
    (refuseIf (s.activeOf record).isNone .undefined)).or
    (refuseIf (!(s.activeOf record).any fun d => d.owner = n || d.subscribers.getLsbD n.val) .notSubscribed)).or
    (refuseIf (!(recNo? record).any fun r => !s.noData r) .noData)

/-- Words from a length on set to zero (R88). -/
def zeroFrom (w : Vector Word 32) (length : Nat) : Vector Word 32 :=
  Vector.ofFn fun i => if i.val < length then w[i] else 0

/-- FETCH r begins on lane Ln (R88): the pin claim, the lane ACTIVE, the descriptor IN_PROGRESS with the captured values, the
window zeroed from the record's length on. -/
def State.startFetch (s : State) (n : Port) (r : RecNo) : State :=
  match s.runtime r, s.activeDef r with
  | some rt, some d =>
    ((s.setRuntime r rt.pin).setLane (laneOf n) { s.lane (laneOf n) with hold := .fetching r 0 rt.pubBuf }).modPort n
      fun p => { p with desc := ⟨.inProgress, r, rt.version, rt.health, rt.lastCycle, d.length⟩,
                        readWindow := zeroFrom p.readWindow d.length }
  | _, _ => s

/-- FETCH (R87, R88). -/
def execFetch (n : Port) (record : Byte) (s : State) : Answer :=
  writeKind s n 0x22 [record] [] (s.fetchCheck n record)
    (match recNo? record with
      | some r => s.startFetch n r
      | none => s)

/-! ## Grants and ends of transfers -/

/-- The granted lane becomes the lane granted last (R82). -/
def State.setArbiter (s : State) (l : LaneNo) : State := { s with arbiter := l }

/-- The transfer a lane holds has moved all its words: its word index has reached the record's length (R85, R89). -/
def State.transferDone (s : State) (l : LaneNo) : Bool :=
  match (s.lane l).hold with
  | .staging r i | .fetching r i _ => (s.activeDef r).any (·.length ≤ i)
  | .idle | .waiting _ => false

/-- The end of the transfer held by lane Ln (R85, R89): a STAGE hands its stage-end claim; a FETCH makes the descriptor VALID and
hands its unpin claim; the lane is IDLE with OK and XFER is set. -/
def State.completeLane (s : State) (n : Port) : State :=
  let s1 := (s.endTransfer (laneOf n) .ok).setXfer n
  match (s.lane (laneOf n)).hold with
  | .staging r _ => s1.modRuntime r Runtime.stageEnd
  | .fetching r _ b => (s1.setDescState n .valid).unpinClaim r b
  | .idle | .waiting _ => s

/-- The end of LM's fetch (R90). -/
def State.completeLm (s : State) : State :=
  match (s.lane lm).hold with
  | .fetching r _ b => ((s.endTransfer lm .ok).reportPeek .completed).unpinClaim r b
  | .idle | .waiting _ | .staging _ _ => s

/-- A transfer whose last word has moved ends in the same step (R27, R85, R89, R90). -/
def State.endIfDone (s : State) (l : LaneNo) : State :=
  if s.transferDone l then
    match portOf l with
    | some n => s.completeLane n
    | none => s.completeLm
  else s

/-- WORD_ACCESS (R82): the next ACTIVE lane in cyclic order moves one word, and with its last word ends its transfer, so that no other
event comes between the two (R85, R89, R90, R95); with no such lane no access is granted. -/
def execWordAccess (s : State) : Answer :=
  match (if s.live then s.nextGrant else none) with
  | none => .next s
  | some l =>
    match s.access l with
    | none => .next s
    | some (a, t) => if a < Config.storeWords then .next ((t.setArbiter l).endIfDone l) else .fault .storeAddress

/-- STAGE_COMPLETE (R85). The access of the last word makes this end in its own step, so the row by itself, and FETCH_COMPLETE and
LM_COMPLETE, find no transfer to end in a run (log entry 11). -/
def execStageComplete (n : Port) (s : State) : Answer :=
  ifDue (s.live && (s.lane (laneOf n)).hold.isStage && s.transferDone (laneOf n)) s (s.completeLane n)

/-- FETCH_COMPLETE (R89). -/
def execFetchComplete (n : Port) (s : State) : Answer :=
  ifDue (s.live && (s.lane (laneOf n)).hold.isFetch && s.transferDone (laneOf n)) s (s.completeLane n)

/-- LM_COMPLETE (R90). -/
def execLmComplete (s : State) : Answer := ifDue (s.live && s.transferDone lm) s s.completeLm

/-- A RETIRED buffer without pins, of a BLOCKED record whose owner's STAGE waits (R86). -/
def Runtime.freedBuf (rt : Runtime) : Option Buf :=
  if rt.staging = .blocked && rt.stageWaiting then
    allBuffers.find? fun b => rt.roles[b] = .retired && rt.pins[b] = 0
  else none

/-- The start of lane Ln's WAITING STAGE (R86): the freed buffer becomes STG, staging FILLING, stage waiting no, the lane ACTIVE
with word index 0; last result and XFER are unchanged. -/
def State.waitingStart (s : State) (n : Port) : Option State :=
  match (s.lane (laneOf n)).hold with
  | .waiting r =>
    match s.runtime r with
    | some rt => rt.freedBuf.map fun b => (s.setRuntime r (rt.leaveBlocked b)).startWaiting (laneOf n) r
    | none => none
  | .idle | .staging _ _ | .fetching _ _ _ => none

/-- WAITING_STAGE_START (R86). The unpin claim that frees the buffer makes this start in its own step (R34), so between steps a
record kept BLOCKED by its pins leaves nothing to start (log entry 3). -/
def execWaitingStageStart (n : Port) (s : State) : Answer :=
  ifDue (s.live && (s.waitingStart n).isSome) s ((s.waitingStart n).getD s)

end Sys2Proof.Machine
end

