-- ==== Sys2Proof/Machine/Maintenance.lean ====
section
/-! DEFINITION. The maintenance line: breaks, collisions, code entry, commands and responses, and the option store's programming
(11, 12 section 12.3). A byte received is one whole command: its reception ends and its echo begins in the command's step. What the
part then sends by itself, and the end of it, comes with time (Machine/Time.lean) or is told by the next event (log entry 12). -/

namespace Sys2Proof.Machine

/-! ## Shared operations -/

/-- A response, or the echo that goes before one. -/
def LineOutput.isResponse : LineOutput → Bool
  | .response _ | .echoThenResponse _ _ => true
  | .nothing | .echo _ | .echoThenBreak _ | .ownBreak => false

/-- A break of the part's own, or the echo that goes before one. -/
def LineOutput.isBreak : LineOutput → Bool
  | .ownBreak | .echoThenBreak _ => true
  | .nothing | .echo _ | .echoThenResponse _ _ | .response _ => false

/-- The part can receive a byte: it works and is not sending a response. A byte received tells that an echo or a break of the part's
own has ended. -/
def State.byteCanCome (s : State) : Bool := s.live && (s.ml.line != .responding || s.ml.sent.isBreak)

/-- A command code can be taken: OPEN or LIMITED access, parser IDLE (R176). -/
def State.codeCanCome (s : State) : Bool := s.byteCanCome && s.ml.access != .closed && s.ml.parser == .idle

/-- The last operand of a command can be taken after these (R176). -/
def State.lastOperandCanCome (s : State) (code : Byte) (received : List Byte) : Bool :=
  s.byteCanCome && s.ml.access != .closed && s.ml.parser == .operands code received

/-- A byte received is echoed (R171), with the parser it leaves. -/
def MLine.echoByte (m : MLine) (b : Byte) (parser : CmdParser) : MLine :=
  { m with parser := parser, line := .echoing, sent := .echo b }

/-- The last byte of a command is echoed and its response follows (R171, R176). -/
def State.answerLine (s : State) (last : Byte) (bytes : List Byte) : State :=
  s.setMl { s.ml with parser := .answering, line := .echoing, sent := .echoThenResponse last bytes }

/-- A response begins that starts later than the echo of the command's last operand (R178, R179). -/
def MLine.startResponse (m : MLine) (bytes : List Byte) : MLine := { m with line := .responding, sent := .response bytes }

/-- Reception, echo or response is abandoned, code entry starts again, a DATA PEEK's data are discarded and an OPTION WRITE goes
unanswered (R172, R173). -/
def MLine.abandon (m : MLine) (parser : CmdParser) (line : LineState) (sent : LineOutput) : MLine :=
  { m with line := line, parser := parser, kept := [], sent := sent, dataPeek := none, awaitAck := false }

/-- A break of the part's own begins (R172, R175). -/
def MLine.sendBreak (m : MLine) : MLine := m.abandon .idle .responding .ownBreak

/-- The report of an entry to CONFIG from INIT (R175): code entry starts again in CLOSED; otherwise the readiness break. -/
def MLine.configReport (m : MLine) : MLine := if m.access = .closed then { m with kept := [] } else m.sendBreak

/-! ## Line events -/

/-- BREAK (R172): the parser is IDLE and the part's own break begins. -/
def execLineBreak (s : State) : Answer := ifDue s.live s (s.setMl s.ml.sendBreak)

/-- The part sends bytes, in which it compares each high bit with the line; in a break of its own it sends none and does not read the
line (R172, R173). -/
def MLine.sendsBytes (m : MLine) : Bool := m.line == .echoing || (m.line == .responding && !m.sent.isBreak)

/-- COLLISION (R173, R176): while the part sends bytes, or on a falling edge while the parser is ANSWERING. -/
def execCollision (s : State) : Answer :=
  ifDue (s.live && (s.ml.sendsBytes || s.ml.parser == .answering)) s (s.setMl (s.ml.abandon .muted .idle .nothing))

/-- FRAMING_ERROR (R172): the reception is discarded unechoed and the parser goes to MUTED. The code count stays. -/
def execFramingError (s : State) : Answer :=
  ifDue (s.byteCanCome && s.ml.parser != .answering) s (s.setMl { s.ml with line := .idle, parser := .muted })

/-- The access won by eight code bytes (R174): any eight match an unprogrammed store. -/
def MLine.accessWon (m : MLine) (code : List Byte) : Access :=
  match m.storedCode with
  | none => .opened
  | some c => if c.toList = code then .opened else .limited

/-- A code byte is kept; the eighth decides the access, and the ready break follows its echo (R174). -/
def MLine.keepCode (m : MLine) (b : Byte) : MLine :=
  if m.kept.length + 1 < 8 then { m.echoByte b m.parser with kept := m.kept ++ [b] }
  else { m with access := m.accessWon (m.kept ++ [b]), kept := [], line := .echoing, sent := .echoThenBreak b }

/-- CODE_BYTE (R174). -/
def execCodeByte (b : Byte) (s : State) : Answer :=
  ifDue (s.byteCanCome && s.ml.access == .closed && s.ml.parser == .idle) s (s.setMl (s.ml.keepCode b))

/-- The operands of a command (R188); 0 for a code with none. -/
def operandCount (code : Byte) : Nat :=
  if code = 0x02 then 1 else if code = 0x03 then 1 else if code = 0x04 then 2 else if code = 0x0B then 14 else 0

/-- The codes of section 13.4 (R188). -/
def commandCodes : List Byte := [0x01, 0x02, 0x03, 0x04, 0x0A, 0x0B, 0x0C]

/-- The parser after a code with operands, or after an operand that is not the last (R176). -/
def CmdParser.afterByte (p : CmdParser) (b : Byte) : Option CmdParser :=
  match p with
  | .idle => if 0 < operandCount b then some (.operands b []) else none
  | .operands code received =>
    if received.length + 1 < operandCount code then some (.operands code (received ++ [b])) else none
  | .answering | .muted => none

/-- A command code with operands, or an operand other than the last, is received (R176). -/
def takeCommandByte (b : Byte) (s : State) : Answer :=
  ifDue (s.byteCanCome && s.ml.access != .closed && (s.ml.parser.afterByte b).isSome) s
    (s.setMl (s.ml.echoByte b ((s.ml.parser.afterByte b).getD s.ml.parser)))

/-- LAST_RESPONSE_BYTE_SENT (R176): line and parser return to IDLE. -/
def execLastResponseByteSent (s : State) : Answer :=
  ifDue (s.live && s.ml.line != .idle && s.ml.sent.isResponse && s.ml.parser == .answering) s
    (s.setMl { s.ml with line := .idle, parser := .idle, dataPeek := none })

/-! ## Commands that read -/

/-- STATUS PEEK (R177), code 01h. -/
def execStatusPeek (s : State) : Answer := ifDue s.codeCanCome s (s.answerLine 0x01 (withCheck s.deviceStatusBytes))

/-- The response to DEF PEEK r (R177). -/
def State.defPeekResponse (s : State) (r : Byte) : List Byte :=
  match recNo? r with
  | none => statusResponse .range
  | some r => if s.exchange = .init then statusResponse .notReady else okResponse (s.recordBytes .active r)

/-- DEF PEEK (R177). -/
def execDefPeek (r : Byte) (s : State) : Answer :=
  ifDue (s.lastOperandCanCome 0x02 []) s (s.answerLine r (s.defPeekResponse r))

/-- Entry i of port p's queue, or an EMPTY entry (R177). -/
def State.peekEntry (s : State) (p : Port) (i : Nat) : List Byte :=
  match (s.port p).queue[i]? with
  | some e => entryBytes e
  | none => emptyEntryBytes s.tb.cycleNumber

/-- The response to QUEUE PEEK p, i (R177): DENIED with LIMITED access. -/
def State.queuePeekResponse (s : State) (p i : Byte) : List Byte :=
  if s.ml.access = .limited then statusResponse .denied
  else if h : p.toNat < 4 then
    if i.toNat ≤ 23 then okResponse (s.peekEntry ⟨p.toNat, h⟩ i.toNat) else statusResponse .range
  else statusResponse .range

/-- QUEUE PEEK (R177). -/
def execQueuePeek (p i : Byte) (s : State) : Answer :=
  ifDue (s.lastOperandCanCome 0x04 [p]) s (s.answerLine i (s.queuePeekResponse p i))

/-- OPTION READ (R177, R181), code 0Ch. -/
def execOptionRead (s : State) : Answer := ifDue s.codeCanCome s (s.answerLine 0x0C (withCheck (optionReadBytes s.opt)))

/-- UNKNOWN_COMMAND (R176): the code is echoed and answered NAK with status UNKNOWN. -/
def execUnknownCommand (code : Byte) (s : State) : Answer :=
  ifDue (s.codeCanCome && !commandCodes.contains code) s (s.answerLine code (nakResponse .unknown))

/-! ## DATA PEEK (R90, R178) -/

/-- LM's answer to a fetch request: the first refusal that applies, or none (R90). -/
def State.lmRefusal (s : State) (record : Byte) : Option MStatus :=
  if s.exchange = .init then some .notReady
  else if (s.lane lm).hold ≠ .idle then some .busy
  else match recNo? record with
    | none => some .undefined
    | some r => if (s.activeDef r).isNone then some .undefined else if s.noData r then some .noData else none

/-- LM takes the fetch of r (R90): the pin claim, LM ACTIVE, and the report to the Maintenance Line Interface. -/
def State.startPeek (s : State) (r : RecNo) (operand : Byte) : State :=
  match s.runtime r, s.activeDef r with
  | some rt, some d =>
    ((s.setRuntime r rt.pin).setLane lm { s.lane lm with hold := .fetching r 0 rt.pubBuf }).setMl
      { s.ml.echoByte operand .answering with dataPeek := some ⟨d.length, rt.version, rt.health, rt.lastCycle, .copying⟩ }
  | _, _ => s

/-- DATA PEEK (R178): DENIED with LIMITED access; a refusal by LM becomes the response status; otherwise LM fetches. -/
def execDataPeek (r : Byte) (s : State) : Answer :=
  ifDue (s.lastOperandCanCome 0x03 []) s
    (if s.ml.access = .limited then s.answerLine r (statusResponse .denied)
    else match s.lmRefusal r, recNo? r with
      | some st, _ => s.answerLine r (statusResponse st)
      | none, some rec => s.startPeek rec r
      | none, none => s.answerLine r (statusResponse .undefined))

/-- The response to a DATA PEEK whose fetch LM has ended; absent while LM copies (R178). -/
def MLine.peekResponse (m : MLine) : Option (List Byte) :=
  match m.dataPeek with
  | none => none
  | some d =>
    match d.status with
    | .copying => none
    | .completed => some (okResponse (peekDescBytes d ++ windowBytes m.peekBuf 0 d.length))
    | .aborted => some (statusResponse .aborted)

/-- DATA_PEEK_RESPONSE (R178). -/
def execDataPeekResponse (s : State) : Answer :=
  ifDue (s.byteCanCome && s.ml.parser == .answering && s.ml.peekResponse.isSome) s
    (s.setMl (s.ml.startResponse (s.ml.peekResponse.getD [])))

/-! ## Commands that change the part (R179, R183) -/

/-- FREEZE from the maintenance line (R106, R179), code 0Ah. -/
def execFreezeCommand (s : State) : Answer :=
  ifDue s.codeCanCome s
    (if s.ml.access = .limited then s.answerLine 0x0A (nakResponse .denied)
    else if s.exchange = .init then s.answerLine 0x0A (nakResponse .notReady)
    else s.freezeExchange.answerLine 0x0A ackResponse)

/-- The checks of OPTION WRITE, in order (R179, R183). -/
def State.optionWriteRefusal (s : State) (image : Vector Byte 13) (check : Byte) : Option MStatus :=
  if s.ml.access = .limited then some .denied
  else if check ≠ crc8 image.toList then some .check
  else if s.exchange ≠ .config then some .wrongState
  else if s.opt.state ≠ .unprogrammed then some .programmed
  else none

/-- Programming begins; the ACK waits for its end (R179, R183). -/
def State.startProgramming (s : State) (image : Vector Byte 13) (check : Byte) : State :=
  { s.setMl { s.ml.echoByte check .answering with awaitAck := true } with opt := ⟨.programming, parseOptionImage image⟩ }

/-- OPTION WRITE (R179). -/
def execOptionWrite (image : Vector Byte 13) (check : Byte) (s : State) : Answer :=
  ifDue (s.lastOperandCanCome 0x0B image.toList) s
    (match s.optionWriteRefusal image check with
      | some st => s.answerLine check (nakResponse st)
      | none => s.startProgramming image check)

/-- The store is PROGRAMMED; the ACK is sent if the command is still being answered (R179, R183). -/
def State.endProgramming (s : State) : State :=
  let s1 := { s with opt := { s.opt with state := .programmed } }
  if s.ml.awaitAck && s.ml.parser == .answering then
    s1.setMl { s.ml.startResponse ackResponse with awaitAck := false }
  else s1

/-- PROGRAMMING_COMPLETE (R183): RESET_N does not stop programming; a loss of power does. -/
def execProgrammingComplete (s : State) : Answer :=
  ifDue (s.powered && s.opt.state = .programming) s s.endProgramming

end Sys2Proof.Machine
end

