-- ==== Sys2Proof/Machine/Queue.lean ====
section
/-! DEFINITION. The request kinds on a port's queue and attention (04 sections 4.3 and 4.5). -/

namespace Sys2Proof.Machine

/-- TAKE (R64): the head entry is removed and returned; an empty queue answers an EMPTY entry with the current cycle number. -/
def execTake (n : Port) (s : State) : Answer :=
  ifDue (s.headerOn n) s
    (match s.notReady, (s.port n).queue with
      | some x, _ => s.respond n x (zeros 8)
      | none, [] => s.respond n .ok (emptyEntryBytes s.tb.cycleNumber)
      | none, e :: rest => (s.modPort n fun p => { p with queue := rest }).respond n .ok (entryBytes e))

/-- The sticky causes after those of a set are cleared; QUEUE and WATERMARK in the set have no effect (R69). -/
def PortState.clearCauses (p : PortState) (set : BitVec 5) : PortState :=
  { p with overflow := p.overflow && !set.getLsbD 2, xfer := p.xfer && !set.getLsbD 3,
           frame := p.frame && !set.getLsbD 4 }

/-- ACKNOWLEDGE (R69). -/
def execAcknowledge (n : Port) (causes : Byte) (s : State) : Answer :=
  writeKind s n 0x23 [causes] [] (s.notReady.or (refuseIf (causeSet? causes).isNone .range))
    (match causeSet? causes with
      | some set => s.modPort n (·.clearCauses set)
      | none => s)

/-- A watermark 1..24 (R70). -/
def watermarkOk (w : Byte) : Bool := 1 ≤ w.toNat && w.toNat ≤ Config.queueCapacity

/-- SET ATTENTION (R70): enables, watermark and mask are replaced together. -/
def execSetAttention (n : Port) (enables watermark mask : Byte) (s : State) : Answer :=
  writeKind s n 0x24 [enables, watermark, mask] []
    (s.notReady.or (refuseIf (!watermarkOk watermark || (causeSet? enables).isNone || (noteMask? mask).isNone) .range))
    (match causeSet? enables, noteMask? mask with
      | some e, some m => s.modPort n fun p => { p with enables := e, watermark := watermark.toNat, noteMask := m }
      | _, _ => s)

end Sys2Proof.Machine
end

