-- ==== Sys2Proof/Machine/Arrival.lean ====
section
/-! DEFINITION. What a byte that arrives stands for: the header byte that completes a frame header, and a byte received on MLINE in
OPEN or LIMITED access. Each is carried out as the command its code and its place name (R159, R176, R186, R188). -/

namespace Sys2Proof.Machine

/-- HCHECK_ARRIVAL (R159, R186): the fifth byte completes a header. A bad hcheck takes the parser to DRAIN; the code of a write kind
takes it to PAYLOAD; the code of a read kind is that request, taken at once with the parameters it reads from p1 and p2; any other code
is an unknown one (log entry 28). -/
def execHcheckArrival (n : Port) (h : FrameHeader) (s : State) : Answer :=
  if !h.valid || writeCodes.contains h.code then ifDue (s.headerOn n) s (s.takeHeader n h)
  else if h.code = 0x10 then execStatus n s
  else if h.code = 0x11 then execReadWindow n h.p1 h.p2 s
  else if h.code = 0x12 then execTake n s
  else if h.code = 0x13 then execReadRecord n h.p1 h.p2 s
  else if h.code = 0x14 then execReadHeader n h.p1 s
  else if h.code = 0x15 then execReadBallot n s
  else execUnknownCode n h s

/-- A byte received while the parser is IDLE, with OPEN or LIMITED access: a command code (R176, R188). -/
def takeCode (b : Byte) (s : State) : Answer :=
  if b = 0x01 then execStatusPeek s
  else if b = 0x0A then execFreezeCommand s
  else if b = 0x0C then execOptionRead s
  else if commandCodes.contains b then takeCommandByte b s
  else execUnknownCommand b s

/-- A byte received in OPERANDS: the next operand of the command, which the last one completes (R176, R188). -/
def takeOperand (code : Byte) (received : List Byte) (b : Byte) (s : State) : Answer :=
  if received.length + 1 < operandCount code then takeCommandByte b s
  else if code = 0x02 then execDefPeek b s
  else if code = 0x03 then execDataPeek b s
  else if code = 0x04 then execQueuePeek (received.getD 0 0) b s
  else execOptionWrite (Vector.ofFn fun i : Fin 13 => received.getD i.val 0) b s

/-- MLINE_COMMAND_BYTE (R176, R188): a byte received with OPEN or LIMITED access. A command code with operands, or an operand other
than the last, moves the parser; a byte that completes a command is that command (log entry 28). -/
def execMlineCommandByte (b : Byte) (s : State) : Answer :=
  match s.ml.parser with
  | .idle => takeCode b s
  | .operands code received => takeOperand code received b s
  | .answering | .muted => .next s

end Sys2Proof.Machine
end

