-- ==== Sys2Proof/Machine/Clock.lean ====
section
/-! DEFINITION. Ticks, cycle starts, SYNCOUT, SYNCIN pulses and the discipline (09). -/

namespace Sys2Proof.Machine

/-! ## Ticks and cycle starts -/

/-- The Timebase counts: the part works and the Timebase is not stopped (R143). -/
def State.counting (s : State) : Bool := s.live && s.tb.running

/-- The next tick is counted: it is in progress, and its points are still to be taken (R39, R40, R142). -/
def Timebase.countTick (tb : Timebase) : Timebase :=
  { tb with tickCount := tb.tickCount + 1, tickHanded := false,
            syncOutAge := if tb.syncOut then tb.syncOutAge + 1 else tb.syncOutAge }

/-- A tick is handed: the tick in progress where it has not been handed yet, else the next one, counted in the same step (R142). -/
def Timebase.handTick (tb : Timebase) : Timebase :=
  if tb.tickHanded then { tb.countTick with tickHanded := true } else { tb with tickHanded := true }

/-- CYCLE_START (R105, R142): the tick count returns to 0 after the last tick of the cycle. -/
def execCycleStart (s : State) : Answer :=
  ifDue (s.counting && s.tb.tickHanded && s.active.header.cycleTicks ≤ s.tb.tickCount + 1) s
    (s.setTb (s.tb.nextCycle s.tb.nextCredit)).cycleStartWork

/-- SYNCOUT's pulse ends: the tick in progress is the eighth in which it is high, and has been handed (R145). No tick is counted
before the end (log entry 10). -/
def State.pulseEndDue (s : State) : Bool :=
  s.live && s.tb.syncOut && s.tb.tickHanded && Config.syncOutTicks ≤ s.tb.syncOutAge + 1

/-- SYNCOUT_PULSE_END (R145): SYNCOUT returns low 8 ticks after it was driven high. -/
def execSyncoutPulseEnd (s : State) : Answer :=
  ifDue s.pulseEndDue s (s.setTb { s.tb with syncOut := false, syncOutAge := 0 })

/-! ## Pulses (R146 to R149) -/

/-- The phase error of a pulse in the tick in progress (R146). -/
def Timebase.phaseError (tb : Timebase) (cycleTicks : Nat) : Int :=
  if tb.tickCount < cycleTicks - cycleTicks / 2 then tb.tickCount else tb.tickCount - cycleTicks

/-- The trim is clamped (R141). -/
def clampTrim (x : Int) : Int := max (-Config.trimLimit) (min Config.trimLimit x)

/-- The credit of an accepted pulse outside SEEK (R147). -/
def Timebase.credit (tb : Timebase) (e : Int) : Timebase :=
  if 0 ≤ e then { tb with startCredit := true } else { tb with nextCredit := true }

/-- The correction of the trim by a gain in ppm per tick of phase error (R149). -/
def Timebase.correct (tb : Timebase) (gain e : Int) : Timebase := { tb with trim := clampTrim (tb.trim - gain * e) }

/-- What a pulse does to the discipline: it leaves a Timebase (perhaps in a new state), or it makes a phase step. -/
inductive PulseEffect where
  | settle (tb : Timebase)
  | step (tb : Timebase)
deriving DecidableEq, Repr

/-- A pulse in ACQUIRE (R151). -/
def Timebase.acquirePulse (tb : Timebase) (h : SchedHeader) (e : Int) : PulseEffect :=
  let t := { tb.correct 8 e with missedRun := 0 }
  if e.natAbs ≤ h.acqTol then
    if h.nAcq ≤ tb.acquireRun + 1 then
      .settle { t with acquireRun := tb.acquireRun + 1, discipline := .track, lockRun := 0 }
    else .settle { t with acquireRun := tb.acquireRun + 1 }
  else .settle { t with acquireRun := 0 }

/-- A pulse in TRACK (R152). -/
def Timebase.trackPulse (tb : Timebase) (h : SchedHeader) (e : Int) : PulseEffect :=
  let t := tb.correct 1 e
  if e.natAbs ≤ h.lockTol then
    if h.nLock ≤ tb.lockRun + 1 then .settle { t with lockRun := tb.lockRun + 1, discipline := .locked }
    else .settle { t with lockRun := tb.lockRun + 1 }
  else if e.natAbs ≤ h.acqTol then .settle { t with lockRun := 0 }
  else .step t

/-- A pulse in LOCKED (R153). -/
def Timebase.lockedPulse (tb : Timebase) (h : SchedHeader) (e : Int) : PulseEffect :=
  let t := tb.correct 1 e
  if e.natAbs ≤ h.lockTol then .settle t
  else if e.natAbs ≤ h.acqTol then .settle { t with discipline := .track, lockRun := 0 }
  else .step t

/-- A pulse in HOLDOVER (R154): no correction. -/
def Timebase.holdoverPulse (tb : Timebase) (h : SchedHeader) (e : Int) : PulseEffect :=
  if e.natAbs ≤ h.acqTol then .settle { tb with discipline := .track, lockRun := 0 } else .step tb

/-- A pulse taken in FOLLOWER mode, with phase error e (R147, R150 to R154). -/
def Timebase.pulse (tb : Timebase) (h : SchedHeader) (e : Int) : PulseEffect :=
  match tb.discipline with
  | .master => .settle tb
  | .seek => .step { tb with lockRun := 0, holdoverCount := 0 }
  | d =>
    if h.syncWin < e.natAbs then .settle { tb with spurious := min Config.spuriousMax (tb.spurious + 1) }
    else match d with
      | .acquire => (tb.credit e).acquirePulse h e
      | .track => (tb.credit e).trackPulse h e
      | .locked => (tb.credit e).lockedPulse h e
      | _ => (tb.credit e).holdoverPulse h e

/-- The state after a pulse: a change of discipline is reported, a phase step made (R155, R156). -/
def State.takePulse (s : State) : State :=
  match s.tb.pulse s.active.header (s.tb.phaseError s.active.header.cycleTicks) with
  | .settle tb => s.changeDiscipline tb
  | .step tb => s.phaseStep tb

/-- SYNC_PULSE (R144, R146): in MASTER mode, and while the Timebase is stopped, the pulse is not taken. -/
def execSyncPulse (s : State) : Answer :=
  ifDue (s.counting && s.active.header.mode = .follower) s s.takePulse

/-! ## Missed pulses (R148, R151 to R154) -/

/-- Entry to SEEK: trim 0, the four counters 0, both credits no (R151, R154). -/
def Timebase.toSeek (tb : Timebase) : Timebase :=
  { tb with discipline := .seek, trim := 0, acquireRun := 0, lockRun := 0, missedRun := 0, holdoverCount := 0,
            startCredit := false, nextCredit := false }

/-- A missed-pulse event taken by the discipline. -/
def Timebase.missed (tb : Timebase) (h : SchedHeader) : Timebase :=
  match tb.discipline with
  | .acquire => if 3 ≤ tb.missedRun + 1 then tb.toSeek else { tb with missedRun := tb.missedRun + 1 }
  | .track | .locked => { tb with discipline := .holdover, holdoverCount := 1 }
  | .holdover =>
    if h.holdoverLimit ≤ tb.holdoverCount + 1 then tb.toSeek else { tb with holdoverCount := tb.holdoverCount + 1 }
  | .master | .seek => tb

/-- The disciplines in which the check at tick SYNC_WIN is made (R148). -/
def Discipline.checksPulses : Discipline → Bool
  | .acquire | .track | .locked | .holdover => true
  | .master | .seek => false

/-- The missed-pulse event is due: tick SYNC_WIN, start credit no, not yet made in this cycle (R148). DESIGN CHOICE (log entry 26):
a pulse with negative e at tick SYNC_WIN that causes a phase step in TRACK, LOCKED or HOLDOVER before the check cuts the cycle (R155),
so that cycle's check makes no event; R157 says of such a pulse that the check makes its event in either order. -/
def State.missedDue (s : State) : Bool :=
  s.counting && s.tb.discipline.checksPulses && s.tb.tickCount = s.active.header.syncWin && !s.tb.startCredit
    && !s.tb.missedMade

/-- MISSED_PULSE_EVENT (R148). -/
def execMissedPulseEvent (s : State) : Answer :=
  ifDue s.missedDue s (s.changeDiscipline { s.tb.missed s.active.header with missedMade := true })

/-! ## The tick -/

/-- The next tick of the cycle can be counted: the tick in progress has been handed. At the last tick of a cycle the tick count's
next move is its return to 0, which is the cycle start; tick SYNC_WIN does not end before its missed-pulse event, and the eighth tick
of a SYNCOUT pulse not before the pulse's end (R142, R145, R148, log entries 9 and 10). -/
def State.nextTickDue (s : State) : Bool :=
  s.counting && s.tb.tickHanded && s.tb.tickCount + 1 < s.active.header.cycleTicks && !s.missedDue
    && !s.pulseEndDue

/-- TICK (R39, R142): a tick is handed and its points are taken: the tick in progress, if its points are still to be taken, else
the next one. -/
def execTick (s : State) : Answer :=
  ifDue ((s.counting && !s.tb.tickHanded) || s.nextTickDue) s (s.setTb s.tb.handTick).takePoints

end Sys2Proof.Machine
end

