-- ==== Sys2Proof/Machine/Resets.lean ====
section
/-! DEFINITION. Power, RESET_N and the end of the store clear (06 sections 6.2 and 6.9, 12). -/

namespace Sys2Proof.Machine

/-- A port after power-on and RESET_N (R73, R97, R169); the level of chip select is the processor's. -/
def PortState.resetAll (p : PortState) : PortState :=
  { p.resetWindows.resetAttention with
    parser := .wait, byteCount := 0, summaryOut := [], responseOut := [], lastResult := .ok }

/-- The maintenance line after RESET_N (R175): line and parser IDLE, access, code count and line rate unchanged. DESIGN CHOICE (log
entry 27): the peek buffer keeps its words; no rule gives its contents after RESET_N (R90, R97 and R175 do not name it). -/
def MLine.resetLine (m : MLine) : MLine :=
  { m with line := .idle, parser := .idle, sent := .nothing, dataPeek := none, awaitAck := false }

/-- The ballot record after power-on and RESET_N (R110, R128). -/
def BallotRecord.none : BallotRecord := ⟨.none, ⟨.none, .none, .none, 0⟩⟩

/-- What power-on and RESET_N reset alike (R110): exchange, ballot, flag, lanes, arbiter, ports, store clear, maintenance line,
table, Timebase. No note is handed. -/
def State.resetParts (s : State) : State :=
  ({ s with
      exchange := .init, ballot := BallotRecord.none, switchPending := false, lanes := Vector.replicate 5 ⟨.idle, .none⟩,
      arbiter := lm, ports := Vector.ofFn fun n => s.ports[n].resetAll, clearing := true,
      ml := s.ml.resetLine }).resetTable.stopTimebase

/-- The member set latched from the straps: all four ports where all straps read low (R180). -/
def latchMembers (memb : PortSet) : PortSet := if memb = 0 then 0b1111#4 else memb

/-- The option store as power-on finds it: programming cut by the loss of power has not completed (R183). -/
def OptionStore.powerUp (o : OptionStore) : OptionStore :=
  if o.state = .programming then { o with state := .unprogrammed } else o

/-- The maintenance line at power-on (R171, R174, R182). -/
def MLine.powerUp (o : OptionStore) : MLine where
  access := .closed
  kept := []
  storedCode := o.code
  rate := o.rate
  line := .idle
  parser := .idle
  sent := .nothing
  dataPeek := none
  awaitAck := false
  peekBuf := Vector.replicate 32 0

/-- What power-on sets before the reset it shares with RESET_N. -/
def State.powerUp (s : State) (memb : PortSet) : State :=
  { s with powered := true, resetLow := false, members := latchMembers memb, opt := s.opt.powerUp,
           ml := MLine.powerUp s.opt.powerUp }

/-- POWER_ON (R99, R110, R174, R180). -/
def execPowerOn (memb : PortSet) (s : State) : Answer := .next (s.powerUp memb).resetParts.enterInit

/-- POWER_LOSS (R183): the part stops; what it held is set again at the next power-on, and the option store is read then. -/
def execPowerLoss (s : State) : Answer := .next { s with powered := false }

/-- RESET_N (R110): the reset is made and held while the pin is low. -/
def execResetN (s : State) : Answer := ifDue s.live s { s.resetParts with resetLow := true }

/-- RESET_N_RELEASE (R110): the exchange enters INIT, with its EXCHANGE note. -/
def execResetNRelease (s : State) : Answer :=
  ifDue (s.powered && s.resetLow) s ({ s with resetLow := false }).enterInit

/-- The entry to CONFIG at the clear's end (R20, R100): every word 0, CONFIG, the Timebase restarted, the EXCHANGE note, the report
to the Maintenance Line Interface. -/
def State.finishClear (s : State) : State :=
  let s1 := ({ s.setExchange .config with clearing := false, store := [] }).restartTimebase.exchangeNote
  s1.setMl s1.ml.configReport

/-- CLEAR_DONE (R20, R100): the clear of an exchange in INIT completes. -/
def execClearDone (s : State) : Answer :=
  ifDue (s.live && s.clearing && s.exchange = .init) s s.finishClear

end Sys2Proof.Machine
end

