-- ==== Sys2Proof/Machine/Dispatch.lean ====
section
/-! DEFINITION. exec: one arm per command of spec/opcode_table.json, each one call of its meaning. -/

namespace Sys2Proof.Machine

def exec (i : Instr) (s : State) : Host.Outcome State Fault Refusal :=
  match i with
  | .powerOn memb => Sys2Proof.Machine.execPowerOn memb s
  | .resetN => Sys2Proof.Machine.execResetN s
  | .resetNRelease => Sys2Proof.Machine.execResetNRelease s
  | .clearDone => Sys2Proof.Machine.execClearDone s
  | .chipSelectAssert n => Sys2Proof.Machine.execChipSelectAssert n s
  | .frameDiscard n bytes partialBits => Sys2Proof.Machine.execFrameDiscard n bytes partialBits s
  | .unknownCode n header => Sys2Proof.Machine.execUnknownCode n header s
  | .status n => Sys2Proof.Machine.execStatus n s
  | .readWindow n offset count => Sys2Proof.Machine.execReadWindow n offset count s
  | .take n => Sys2Proof.Machine.execTake n s
  | .readRecord n record image => Sys2Proof.Machine.execReadRecord n record image s
  | .readHeader n image => Sys2Proof.Machine.execReadHeader n image s
  | .readBallot n => Sys2Proof.Machine.execReadBallot n s
  | .writeWindow n offset count payload pcheck => Sys2Proof.Machine.execWriteWindow n offset count payload pcheck s
  | .stage n record => Sys2Proof.Machine.execStage n record s
  | .fetch n record => Sys2Proof.Machine.execFetch n record s
  | .acknowledge n causes => Sys2Proof.Machine.execAcknowledge n causes s
  | .setAttention n enables watermark mask => Sys2Proof.Machine.execSetAttention n enables watermark mask s
  | .editRecord n record payload pcheck => Sys2Proof.Machine.execEditRecord n record payload pcheck s
  | .dropRecord n record => Sys2Proof.Machine.execDropRecord n record s
  | .editHeader n payload pcheck => Sys2Proof.Machine.execEditHeader n payload pcheck s
  | .revertShadow n => Sys2Proof.Machine.execRevertShadow n s
  | .vote n item choice => Sys2Proof.Machine.execVote n item choice s
  | .freeze n => Sys2Proof.Machine.execFreeze n s
  | .portReset n => Sys2Proof.Machine.execPortReset n s
  | .wordAccess => Sys2Proof.Machine.execWordAccess s
  | .stageComplete n => Sys2Proof.Machine.execStageComplete n s
  | .fetchComplete n => Sys2Proof.Machine.execFetchComplete n s
  | .lmComplete => Sys2Proof.Machine.execLmComplete s
  | .waitingStageStart n => Sys2Proof.Machine.execWaitingStageStart n s
  | .tick => Sys2Proof.Machine.execTick s
  | .cycleStart => Sys2Proof.Machine.execCycleStart s
  | .switch => Sys2Proof.Machine.execSwitch s
  | .syncoutPulseEnd => Sys2Proof.Machine.execSyncoutPulseEnd s
  | .syncPulse => Sys2Proof.Machine.execSyncPulse s
  | .missedPulseEvent => Sys2Proof.Machine.execMissedPulseEvent s
  | .ballotTimerTick => Sys2Proof.Machine.execBallotTimerTick s
  | .ballotExpiry => Sys2Proof.Machine.execBallotExpiry s
  | .lineBreak => Sys2Proof.Machine.execLineBreak s
  | .collision => Sys2Proof.Machine.execCollision s
  | .framingError => Sys2Proof.Machine.execFramingError s
  | .codeByte b => Sys2Proof.Machine.execCodeByte b s
  | .statusPeek => Sys2Proof.Machine.execStatusPeek s
  | .defPeek r => Sys2Proof.Machine.execDefPeek r s
  | .dataPeek r => Sys2Proof.Machine.execDataPeek r s
  | .dataPeekResponse => Sys2Proof.Machine.execDataPeekResponse s
  | .queuePeek p k => Sys2Proof.Machine.execQueuePeek p k s
  | .freezeCommand => Sys2Proof.Machine.execFreezeCommand s
  | .optionWrite image check => Sys2Proof.Machine.execOptionWrite image check s
  | .programmingComplete => Sys2Proof.Machine.execProgrammingComplete s
  | .optionRead => Sys2Proof.Machine.execOptionRead s
  | .unknownCommand code => Sys2Proof.Machine.execUnknownCommand code s
  | .chipSelectRelease n => Sys2Proof.Machine.execChipSelectRelease n s
  | .hcheckArrival n header => Sys2Proof.Machine.execHcheckArrival n header s
  | .mlineCommandByte b => Sys2Proof.Machine.execMlineCommandByte b s
  | .lastResponseByteSent => Sys2Proof.Machine.execLastResponseByteSent s
  | .powerLoss => Sys2Proof.Machine.execPowerLoss s

end Sys2Proof.Machine
end

