-- ==== Sys2Proof/Machine/Time.lean ====
section
/-! DEFINITION. What the part does with time when no command comes: the Timebase counts its next tick, a port clocks out a byte of its
response, and what the part sends on MLINE goes on (log entry 16). The table has no row for any of these. -/

namespace Sys2Proof.Machine

/-- One byte of a response is clocked out; after the last of them the parser goes to DRAIN (R159, R162). -/
def PortState.clockOut (p : PortState) : PortState :=
  match p.parser with
  | .respond =>
    if p.byteCount + 1 < 5 + p.responseOut.length then p.countBytes 1 else { p.countBytes 1 with parser := .drain false }
  | .wait | .header | .payload _ | .drain _ => p

/-- What the part sends on MLINE goes on (R171, R172, R174): an echo ends, and the line returns to IDLE or the response or the break
that follows the echo begins; a break of the part's own ends and the line returns to IDLE. The end of a response is
LAST_RESPONSE_BYTE_SENT. -/
def MLine.sendOn (m : MLine) : MLine :=
  match m.line with
  | .echoing => { m with line := if m.sent.isResponse || m.sent.isBreak then .responding else .idle }
  | .responding => if m.sent.isBreak then { m with line := .idle } else m
  | .idle | .receiving => m

/-- Time passes with no command to take. -/
def State.passTime (s : State) : State :=
  if s.live then
    { s with ports := s.ports.map PortState.clockOut, ml := s.ml.sendOn,
             tb := if s.nextTickDue then s.tb.countTick else s.tb }
  else s

end Sys2Proof.Machine
end

