-- ==== Sys2Proof/Safety.lean ====
section
/-! DEFINITION. What a sound state of the GD4120 is: the laws the spec states "the part keeps", as predicates that the claims
use. Each law is closed under every step by itself, or with the laws named in its docstring. -/

namespace Sys2Proof.Machine

/-! ## The queues (R59) -/

/-- At most 24 entries, at most one PUBLISHED entry for any one record, a lost count of at most 255 (R59). -/
def PortState.QueueOk (p : PortState) : Prop :=
  p.queue.length ≤ Config.queueCapacity ∧ (∀ r : RecNo, p.queue.countP (Entry.isPublishedOf r) ≤ 1)
    ∧ p.lost ≤ Config.countMax

/-- The law of R59 for the four ports. -/
def State.QueuesOk (s : State) : Prop := ∀ n : Port, (s.port n).QueueOk

/-! ## The Record Store (R19) -/

/-- The store is in its canonical form. -/
def State.StoreOk (s : State) : Prop := s.store.wf = true

/-! ## Buffers (R22, R32) -/

/-- The law of R22 and R32: exactly one PUB buffer, at most one STG buffer, none exactly while BLOCKED, a STG buffer without pins,
both RETIRED buffers of a BLOCKED record pinned, and a STAGE waiting only on a BLOCKED record (R24). -/
def Runtime.BuffersOk (rt : Runtime) : Prop :=
  rt.roles.count .pub = 1 ∧ rt.roles.count .stg ≤ 1 ∧ (rt.roles.count .stg = 0 ↔ rt.staging = .blocked)
    ∧ (∀ b : Buf, rt.roles[b] = .stg → rt.pins[b] = 0)
    ∧ (rt.staging = .blocked → ∀ b : Buf, rt.roles[b] = .retired → 0 < rt.pins[b])
    ∧ (rt.stageWaiting = true → rt.staging = .blocked)

/-- The buffers of every runtime obey the law. -/
def State.BuffersOk (s : State) : Prop := ∀ r : RecNo, ∀ rt, s.runtime r = some rt → rt.BuffersOk

/-! ## The record table and the publication fields (R3, R5, R7, R44, R47) -/

/-- Every definition of an image holds values in range, and so does its header (R3, R5). -/
def Image.InRange (i : Image) : Prop := (∀ r : RecNo, ∀ d, i.defs[r] = some d → d.inRange = true) ∧ i.header.inRange = true

/-- Both images hold values in range (R3, R5). -/
def State.TableOk (s : State) : Prop := s.active.InRange ∧ s.shadow.InRange

/-- The laws of R44 and R47: version 0 exactly while UNPUBLISHED, a miss count of at most 15, and below the miss limit while
FRESH. -/
def Runtime.CountsOk (rt : Runtime) (limit : Nat) : Prop :=
  (rt.version = 0 ↔ rt.health = .unpublished) ∧ rt.missCount ≤ Config.missMax
    ∧ (rt.health = .fresh → rt.missCount < limit) ∧ (rt.health = .unpublished → rt.missCount = 0)

/-- Every record defined in the active image, and no other, has a runtime (R7), and its counts obey the laws. -/
def State.CountsOk (s : State) : Prop :=
  ∀ r : RecNo, match s.activeDef r, s.runtime r with
    | some d, some rt => rt.CountsOk d.missLimit
    | none, none => True
    | _, _ => False

/-- The tables in range and the publication fields in order, which every step keeps together. -/
def State.RecordsOk (s : State) : Prop := s.TableOk ∧ s.CountsOk

/-! ## Transfers (R23, R24, R25, R77, R80) -/

/-- The lanes that fetch record r from buffer b. -/
def State.fetchesOf (s : State) (r : RecNo) (b : Buf) : Nat :=
  (allLanes.filter fun l => match (s.lane l).hold with
    | .fetching r' _ b' => r' = r && b' = b
    | _ => false).length

/-- What a lane holds agrees with the record's definition, its word index with the record's length, and a STAGE with the record's
owner and staging state (R23, R24, R80). The index stays below the length, since the access of the last word ends the transfer (R85,
R89, R90). -/
def State.LaneOk (s : State) (l : LaneNo) : Prop :=
  match (s.lane l).hold with
  | .idle => True
  | .fetching r i _ => ∃ d, s.activeDef r = some d ∧ i < d.length
  | .staging r i =>
    ∃ d rt, s.activeDef r = some d ∧ s.runtime r = some rt ∧ l = laneOf d.owner ∧ rt.staging = .filling ∧ i < d.length
  | .waiting r => ∃ d rt, s.activeDef r = some d ∧ s.runtime r = some rt ∧ l = laneOf d.owner ∧ rt.stageWaiting = true

/-- A record's runtime agrees with the lanes: FILLING exactly while the owner's lane holds an ACTIVE STAGE on it (R23), stage
waiting exactly while that lane is WAITING with it (R24), and each buffer's pin count the number of FETCHes in flight that read it
(R25). -/
def State.RuntimeOk (s : State) (r : RecNo) : Prop :=
  match s.activeDef r, s.runtime r with
  | some d, some rt =>
    (rt.staging = .filling → ∃ i, (s.lane (laneOf d.owner)).hold = .staging r i)
      ∧ (rt.stageWaiting = true → (s.lane (laneOf d.owner)).hold = .waiting r)
      ∧ ∀ b : Buf, rt.pins[b] = s.fetchesOf r b
  | none, none => True
  | _, _ => False

/-- The fetch descriptor of port n agrees with its lane (R77, R79): IN_PROGRESS exactly while Ln holds an ACTIVE FETCH, and then it
names the FETCH's record and the record's length. -/
def State.DescOk (s : State) (n : Port) : Prop :=
  ((s.port n).desc.state = .inProgress ↔ (s.lane (laneOf n)).hold.isFetch = true)
    ∧ ∀ r i b, (s.lane (laneOf n)).hold = .fetching r i b →
        (s.port n).desc.record = r ∧ ∃ d, s.activeDef r = some d ∧ (s.port n).desc.length = d.length

/-- The laws of the transfers, with the buffers' law on which they rest; held in reset, every lane is IDLE (R97). -/
def State.TransfersOk (s : State) : Prop :=
  (∀ l : LaneNo, s.LaneOk l) ∧ (∀ n : Port, s.DescOk n) ∧ (∀ r : RecNo, s.RuntimeOk r) ∧ s.BuffersOk
    ∧ (s.resetLow = true → ∀ l : LaneNo, (s.lane l).hold = .idle)

/-! ## The active image (R1) -/

/-- The laws an image has once validated: groups pairwise disjoint, every point below the cycle ticks (R1, R16). -/
def Image.Validated (i : Image) : Prop := i.overlapRecord = none ∧ i.beyondRecord = none

/-- The active image is validated (R1), and so is a shadow that a COMMIT ballot or a pending switch locks (R2), whose timebase
fields outside CONFIG equal the active ones (R5, R16). -/
def State.ScheduleOk (s : State) : Prop :=
  s.active.Validated
    ∧ (s.shadowLocked = true → s.shadow.Validated)
    ∧ (s.shadowLocked = true → s.exchange ≠ .config → s.shadow.header.sameTimebase s.active.header = true)

/-! ## Exchange, ballot and flag (R113, R114, R129) -/

/-- The open ballot's item is allowed in the exchange state (R114, R122), a non-member has no vote (R113), elapsed time does not
pass the time limit (R121); the switch-pending flag is set only in ARMED, RUN, HOLD and STOPPING (R129); held in reset, the exchange
is INIT (R110). -/
def State.BallotOk (s : State) : Prop :=
  (∀ b, s.ballot.current = some b →
      b.item.allowedIn s.exchange = true ∧ (∀ n : Port, s.isMember n = false → b.votes[n] = .none) ∧ b.elapsed ≤ b.limit)
    ∧ (s.switchPending = true → s.exchange.switchesAtCycleStart = true)
    ∧ (s.resetLow = true → s.exchange = .init)

/-- The schedule, the ballot and the flag in order, which every step keeps together. -/
def State.ControlOk (s : State) : Prop := s.ScheduleOk ∧ s.BallotOk

/-! ## Publishing and the discipline (R40, R141, R144) -/

/-- The law of R40: while publications are taken, the discipline is MASTER, TRACK, LOCKED or HOLDOVER. -/
def State.AlignedWhilePublishing (s : State) : Prop :=
  s.exchange.takesPoints = true → s.tb.discipline ≠ .seek ∧ s.tb.discipline ≠ .acquire

/-- The Timebase in range under a schedule header: the trim in -1000..+1000 ppm (R141), the tick count below the cycle ticks (R142),
SYNCOUT's whole ticks in 0..7 (R145), the spurious pulse count in 0..65535 (R147). -/
def Timebase.RangesOk (tb : Timebase) (h : SchedHeader) : Prop :=
  (-Config.trimLimit ≤ tb.trim ∧ tb.trim ≤ Config.trimLimit) ∧ tb.tickCount < h.cycleTicks
    ∧ tb.syncOutAge < Config.syncOutTicks ∧ tb.spurious ≤ Config.spuriousMax

/-- The run counters in range under a schedule header (09 section 9.4): acquire run 0..N_ACQ, below N_ACQ in ACQUIRE; lock run
0..N_LOCK, below N_LOCK in TRACK; missed run 0..3; holdover count 0..holdover limit. -/
def Timebase.CountersOk (tb : Timebase) (h : SchedHeader) : Prop :=
  tb.acquireRun ≤ h.nAcq ∧ (tb.discipline = .acquire → tb.acquireRun < h.nAcq)
    ∧ tb.lockRun ≤ h.nLock ∧ (tb.discipline = .track → tb.lockRun < h.nLock)
    ∧ tb.missedRun ≤ 3 ∧ tb.holdoverCount ≤ h.holdoverLimit

/-- The Timebase and its run counters in range; in MASTER mode the trim and the run counters are 0 (R144). -/
def State.TimebaseOk (s : State) : Prop :=
  s.tb.RangesOk s.active.header ∧ s.tb.CountersOk s.active.header
    ∧ (s.active.header.mode = .master →
        s.tb.trim = 0 ∧ s.tb.acquireRun = 0 ∧ s.tb.lockRun = 0 ∧ s.tb.missedRun = 0 ∧ s.tb.holdoverCount = 0)

/-- In MASTER mode the discipline is MASTER, in FOLLOWER mode it is not (R144). -/
def State.ModeOk (s : State) : Prop := s.active.header.mode = .master ↔ s.tb.discipline = .master

/-! ## Names that the claims use -/

/-- MLINE is free for a byte of the tester's: the part is not sending a response (R171). A byte that comes tells that an echo or a
break of the part's own has ended (log entry 12). -/
def MLine.Free (m : MLine) : Prop := m.line ≠ .responding ∨ m.sent = .ownBreak ∨ ∃ b, m.sent = .echoThenBreak b

/-- The state with port n holding p. -/
def State.withPort (s : State) (n : Port) (p : PortState) : State := { s with ports := s.ports.set n p }

/-- The state after a note is handed to the four queues. -/
def State.notedAll (s : State) (e : Entry) : State := { s with ports := Vector.ofFn fun n => (s.port n).accept e }

/-- The state after the exchange has moved to x with its EXCHANGE note, no ballot being cancelled (R111). -/
def State.movedTo (s : State) (x : ExState) : State := { s with exchange := x }.notedAll (.exchange s.tb.cycleNumber x)

/-- The entries that the point of a record hands to the queue of port n, in order (R48, R50, R53); `rt` is the runtime the point
found. -/
def pointEntries (r : RecNo) (d : RecordDef) (rt : Runtime) (cycle : Byte) (n : Port) : List Entry :=
  if rt.staging = .ready then
    (if rt.health = .stale ∧ (n = d.owner ∨ d.subscribers.getLsbD n.val = true) then [.recovered r cycle] else [])
      ++ (if d.publishNotes = true ∧ d.subscribers.getLsbD n.val = true then
            [.published r (if rt.version = 0xFFFF then 1 else rt.version + 1) cycle 1] else [])
  else if rt.health = .unpublished then []
  else
    (if d.missNotes = true ∧ n = d.owner then
        [.missed r cycle (match rt.staging with | .filling => .late | .blocked => .blocked | .empty | .ready => .empty)]
      else [])
      ++ (if (rt.health = .fresh ∧ min 15 (rt.missCount + 1) = d.missLimit)
              ∧ (n = d.owner ∨ d.subscribers.getLsbD n.val = true) then [.stale r cycle] else [])

/-- The runtime after its point is taken (R43, R46, R47). -/
def pointRuntime (d : RecordDef) (rt : Runtime) (cycle : Byte) : Runtime :=
  if rt.staging = .ready then
    { rt.rotate with version := if rt.version = 0xFFFF then 1 else rt.version + 1, lastCycle := cycle, missCount := 0,
                     health := .fresh }
  else if rt.health = .unpublished then rt
  else
    { rt with missCount := min 15 (rt.missCount + 1),
              health := if rt.health = .fresh ∧ min 15 (rt.missCount + 1) = d.missLimit then .stale else rt.health }

/-- A tick selects a record: its point is the tick number and its phase the cycle number modulo its period (R39). -/
def RecordDef.selectedAt (d : RecordDef) (tick : Nat) (cycle : Byte) : Bool :=
  d.point = tick && cycle.toNat % d.period = d.phase

end Sys2Proof.Machine

namespace Sys2Proof

/-- The commands that reach a part whose power is off or whose RESET_N is low: the power and reset pins, the level of a chip
select, and the end of a programming that has begun (R110, R158, R183). -/
def Instr.reachesDeadPart : Instr → Bool
  | .powerOn _ | .powerLoss | .resetNRelease | .chipSelectAssert _ | .chipSelectRelease _ | .programmingComplete => true
  | _ => false

end Sys2Proof
end

