-- ==== Sys2Proof/Certificates/Slice0/Obligations.lean ====
section
/-! DEFINITION. The statements about the GD4120 for the provers. `withPort`, `notedAll`, `movedTo`, `pointEntries` and
`pointRuntime` are defined in Sys2Proof/Safety.lean. -/

open Sys2Proof Sys2Proof.Machine

/-! ## Steps -/

/-- The command at the front of the queue is the one executed, on the state with the queue's rest. On an empty queue time passes, which
moves the ports, the maintenance line and the Timebase of a working part and nothing else (the model's choice, log entry 16). -/
def Obligations.StepRunsFrontCommand : Prop :=
  (∀ (c : Instr) (rest : List Instr) (s : State),
      step { s with pending := c :: rest } = exec c { s with pending := rest })
    ∧ ∀ s : State, (s.pending = [] → step s = .next s.passTime) ∧ (s.live = false → s.passTime = s)
        ∧ s.passTime = { s with ports := s.passTime.ports, ml := s.passTime.ml, tb := s.passTime.tb }

/-- No command changes the queue of commands that wait. The queue, and that only the environment puts commands into it, are the model's
choice (log entries 16 and 20). -/
def Obligations.ExecKeepsQueue : Prop := ∀ (c : Instr) (s t : State), exec c s = .next t → t.pending = s.pending

/-- Every command answers a next state: all but WORD_ACCESS in every state, since a command whose event is not due leaves the state
(the model's choice, log entry 1); WORD_ACCESS wherever both images hold values in range (R3, R5), and elsewhere it faults only on a
store address the part does not have (the model's inference, log entry 24). -/
def Obligations.CommandsAnswerNextState : Prop :=
  (∀ (c : Instr) (s : State), c ≠ .wordAccess → ∃ t, exec c s = .next t)
    ∧ (∀ s : State, s.TableOk → ∃ t, exec .wordAccess s = .next t)
    ∧ ∀ s : State, exec .wordAccess s = .fault .storeAddress ∨ ∃ t, exec .wordAccess s = .next t

/-- While power is off or RESET_N is low, only the power and reset pins, the chip selects' levels and the end of a programming
change anything (log entries 5 and 6). -/
def Obligations.DeadPartTakesNothing : Prop :=
  ∀ (c : Instr) (s : State), s.live = false → c.reachesDeadPart = false → exec c s = .next s

/-! ## Power and reset -/

/-- POWER_ON: every block at its power-on value (R18, R73, R97, R99, R110, R143, R169, R174, R180), the store clear begun, the
EXCHANGE note for INIT in every queue; the option image keeps its contents, and a programming that was cut leaves it unprogrammed.
That power-on reaches a powered part too, comes with RESET_N high, and empties the peek buffer and the output bytes is the model's
(log entries 4, 5, 6, 18, 19). POWER_LOSS only takes the power away (log entry 6). -/
def Obligations.PowerOnResetsEveryBlock : Prop :=
  (∀ (memb : PortSet) (s : State), ∃ t, exec (.powerOn memb) s = .next t
    ∧ t.pending = s.pending ∧ t.powered = true ∧ t.resetLow = false
    ∧ t.members = (if memb = 0#4 then 0b1111#4 else memb)
    ∧ (∀ n : Port, t.port n =
        { selected := (s.port n).selected, parser := .wait, byteCount := 0, summaryOut := [], responseOut := [],
          lastResult := .ok, writeWindow := Vector.replicate 32 0, readWindow := Vector.replicate 32 0,
          desc := { state := .none, record := 0, version := 0, health := .unpublished, lastCycle := 0, length := 0 },
          queue := [.exchange 0 .init], lost := 0, overflow := false, xfer := false, frame := false, enables := 0b11101#5,
          watermark := 16, noteMask := 0b1111#4 })
    ∧ (∀ l : LaneNo, t.lane l = ⟨.idle, .none⟩) ∧ t.arbiter = lm
    ∧ t.active = ⟨Vector.replicate 128 none,
        { mode := if s.opt.state = .programmed ∧ s.opt.image.resetMode = 1 then .follower else .master,
          cycleTicks := if s.opt.state = .programmed ∧ 200 ≤ s.opt.image.resetCycleTicks.toNat
              ∧ s.opt.image.resetCycleTicks.toNat ≤ 50000 then s.opt.image.resetCycleTicks.toNat else 1000,
          acqTol := 20, lockTol := 2, nAcq := 4, nLock := 16, holdoverLimit := 32, syncWin := 100, ballotTime := 50 }⟩
    ∧ t.shadow = t.active ∧ (∀ r : RecNo, t.runtime r = none) ∧ t.store = s.store ∧ t.clearing = true
    ∧ t.exchange = .init ∧ t.ballot = ⟨none, ⟨none, none, .none, 0⟩⟩ ∧ t.switchPending = false
    ∧ t.tb = { running := false, tickCount := 0, tickHanded := false, cycleNumber := 0, trim := 0,
               discipline := if t.active.header.mode = .master then .master else .seek, acquireRun := 0, lockRun := 0,
               missedRun := 0, holdoverCount := 0, startCredit := false, nextCredit := false, spurious := 0,
               missedMade := false, syncOut := false, syncOutAge := 0 }
    ∧ t.opt = { s.opt with state := if s.opt.state = .programming then .unprogrammed else s.opt.state }
    ∧ t.ml = { access := .closed, kept := [],
               storedCode := if s.opt.state = .programmed then some s.opt.image.accessCode else none,
               rate := if s.opt.state = .programmed then
                   (if s.opt.image.lineRate = 1 then .baud9600 else if s.opt.image.lineRate = 3 then .baud57600
                    else if s.opt.image.lineRate = 4 then .baud115200 else .baud19200)
                 else .baud19200,
               line := .idle, parser := .idle, sent := .nothing, dataPeek := none, awaitAck := false,
               peekBuf := Vector.replicate 32 0 })
  ∧ ∀ s : State, exec .powerLoss s = .next { s with powered := false }

/-- RESET_N going low on a working part (R18, R73, R97, R110, R143, R169, R175): every block but the member set, the option store,
the access state, the line rate and the store's words, which the clear will set. The EXCHANGE note waits for the release, and the
pin is held low (log entry 22). The byte count 0, the output bytes empty and the peek buffer kept are the model's (log entries 18, 19
and 27). -/
def Obligations.ResetPinResetsEveryBlock : Prop :=
  ∀ s : State, s.live = true → ∃ t, exec .resetN s = .next t
    ∧ t.pending = s.pending ∧ t.powered = s.powered ∧ t.resetLow = true ∧ t.members = s.members
    ∧ (∀ n : Port, t.port n =
        { selected := (s.port n).selected, parser := .wait, byteCount := 0, summaryOut := [], responseOut := [],
          lastResult := .ok, writeWindow := Vector.replicate 32 0, readWindow := Vector.replicate 32 0,
          desc := { state := .none, record := 0, version := 0, health := .unpublished, lastCycle := 0, length := 0 },
          queue := [], lost := 0, overflow := false, xfer := false, frame := false, enables := 0b11101#5,
          watermark := 16, noteMask := 0b1111#4 })
    ∧ (∀ l : LaneNo, t.lane l = ⟨.idle, .none⟩) ∧ t.arbiter = lm
    ∧ t.active = ⟨Vector.replicate 128 none,
        { mode := if s.opt.state = .programmed ∧ s.opt.image.resetMode = 1 then .follower else .master,
          cycleTicks := if s.opt.state = .programmed ∧ 200 ≤ s.opt.image.resetCycleTicks.toNat
              ∧ s.opt.image.resetCycleTicks.toNat ≤ 50000 then s.opt.image.resetCycleTicks.toNat else 1000,
          acqTol := 20, lockTol := 2, nAcq := 4, nLock := 16, holdoverLimit := 32, syncWin := 100, ballotTime := 50 }⟩
    ∧ t.shadow = t.active ∧ (∀ r : RecNo, t.runtime r = none) ∧ t.store = s.store ∧ t.clearing = true
    ∧ t.exchange = .init ∧ t.ballot = ⟨none, ⟨none, none, .none, 0⟩⟩ ∧ t.switchPending = false
    ∧ t.tb = { running := false, tickCount := 0, tickHanded := false, cycleNumber := 0, trim := 0,
               discipline := if t.active.header.mode = .master then .master else .seek, acquireRun := 0, lockRun := 0,
               missedRun := 0, holdoverCount := 0, startCredit := false, nextCredit := false, spurious := 0,
               missedMade := false, syncOut := false, syncOutAge := 0 }
    ∧ t.opt = s.opt
    ∧ t.ml = { s.ml with line := .idle, parser := .idle, sent := .nothing, dataPeek := none, awaitAck := false }

/-- RESET_N returning high: the entry to INIT of R99, its EXCHANGE note with cycle number 0 handed to every queue (log entry 22);
nothing else changes. -/
def Obligations.ResetReleaseEntersInit : Prop :=
  ∀ s : State, s.powered = true → s.resetLow = true → ∃ t, exec .resetNRelease s = .next t
    ∧ t.resetLow = false ∧ t.exchange = .init ∧ t.clearing = true
    ∧ t.active = ⟨Vector.replicate 128 none, s.opt.resetHeader⟩ ∧ t.shadow = t.active
    ∧ (∀ r : RecNo, t.runtime r = none)
    ∧ t.tb = { running := false, tickCount := 0, tickHanded := false, cycleNumber := 0, trim := 0,
               discipline := if t.active.header.mode = .master then .master else .seek, acquireRun := 0, lockRun := 0,
               missedRun := 0, holdoverCount := 0, startCredit := false, nextCredit := false, spurious := 0,
               missedMade := false, syncOut := false, syncOutAge := 0 }
    ∧ (∀ n : Port, t.port n = (s.port n).accept (.exchange 0 .init))
    ∧ t.pending = s.pending ∧ t.powered = s.powered ∧ t.members = s.members ∧ t.lanes = s.lanes ∧ t.arbiter = s.arbiter
    ∧ t.store = s.store ∧ t.ballot = s.ballot ∧ t.switchPending = s.switchPending ∧ t.ml = s.ml ∧ t.opt = s.opt

/-- CLEAR_DONE (R20, R100, R143, R175): in one step every store word is 0, the exchange is CONFIG, the Timebase restarts, the
EXCHANGE note for CONFIG is handed with cycle number 0, and the maintenance line starts code entry again or sends its readiness
break; nothing else changes. -/
def Obligations.ClearDoneEntersConfig : Prop :=
  ∀ s : State, s.live = true → s.clearing = true → s.exchange = .init →
    exec .clearDone s = .next
      { s with
        exchange := .config, clearing := false, store := [],
        tb := { running := true, tickCount := 0, tickHanded := false, cycleNumber := 0, trim := 0,
                discipline := if s.active.header.mode = .master then .master else .seek, acquireRun := 0, lockRun := 0,
                missedRun := 0, holdoverCount := 0, startCredit := false, nextCredit := false, spurious := 0,
                missedMade := false, syncOut := false, syncOutAge := 0 },
        ports := Vector.ofFn fun n => (s.port n).accept (.exchange 0 .config),
        ml := if s.ml.access = .closed then { s.ml with kept := [] }
              else { s.ml with line := .responding, parser := .idle, kept := [], sent := .ownBreak, dataPeek := none,
                               awaitAck := false } }

/-! ## Frames of the host ports -/

/-- CHIP_SELECT_ASSERT (R159, R161): the parser goes to HEADER with count 0 and the four summary bytes and their check are formed;
the summary byte's bits are ATN pending, the exchange state, lane busy and queue not empty. With power off or RESET_N low only the
level of the pin is kept (log entry 5). -/
def Obligations.ChipSelectFormsSummary : Prop :=
  (∀ (n : Port) (s : State), (s.port n).selected = false →
    exec (.chipSelectAssert n) s = .next (s.withPort n
      (if s.live = true then
        { s.port n with selected := true, parser := .header, byteCount := 0, responseOut := [],
                        summaryOut := withCheck [s.summaryByte n, byteOf (s.port n).lastResult.code,
                          byteOf (s.port n).queue.length, s.tb.cycleNumber] }
       else { s.port n with selected := true })))
  ∧ ∀ (n : Port) (s : State),
      (s.summaryByte n).getLsbD 7 = (s.port n).atnLow
      ∧ ((s.summaryByte n).extractLsb' 4 3).toNat = s.exchange.code
      ∧ (s.summaryByte n).getLsbD 3 = decide ((s.lane (laneOf n)).hold ≠ .idle)
      ∧ (s.summaryByte n).getLsbD 2 = decide ((s.port n).queue ≠ [])
      ∧ (s.summaryByte n).extractLsb' 0 2 = 0

/-- HCHECK_ARRIVAL (R159, R186): with a bad hcheck the parser goes to DRAIN; with a valid one the code decides: a write kind's takes
the parser to PAYLOAD, a read kind's is that request with the parameters it reads from p1 and p2, any other is an unknown code. What
`respond` and `endFrame` leave on a port (R162, R163); with time a byte of a response is clocked out, and after the last the parser
goes to DRAIN (R159). The release that ends no frame returns the parser to WAIT with no other effect: after a read kind, after an
unknown code, with no bit clocked in (R159, R164), of an assertion ignored since reset, which finds the parser in WAIT (R158), or with
power off or RESET_N low (log entry 5). When bytes are counted, and that time clocks them out, is the model's (log entries 16 and 18);
that HCHECK_ARRIVAL carries out a read kind is log entry 28. -/
def Obligations.HeaderArrivalAndFrameEnd : Prop :=
  (∀ (n : Port) (h : FrameHeader) (s : State), s.live = true → (s.port n).parser = .header →
    (h.hcheck = crc8 [h.code, h.p1, h.p2, h.p3] → writeCodes.contains h.code = true →
      exec (.hcheckArrival n h) s = .next (s.withPort n { s.port n with parser := .payload h, byteCount := 5 }))
    ∧ (h.hcheck ≠ crc8 [h.code, h.p1, h.p2, h.p3] →
      exec (.hcheckArrival n h) s = .next (s.withPort n { s.port n with parser := .drain true, byteCount := 5 })))
  ∧ (∀ (n : Port) (h : FrameHeader) (s : State), h.hcheck = crc8 [h.code, h.p1, h.p2, h.p3] →
    (h.code = 0x10 → exec (.hcheckArrival n h) s = exec (.status n) s)
    ∧ (h.code = 0x11 → exec (.hcheckArrival n h) s = exec (.readWindow n h.p1 h.p2) s)
    ∧ (h.code = 0x12 → exec (.hcheckArrival n h) s = exec (.take n) s)
    ∧ (h.code = 0x13 → exec (.hcheckArrival n h) s = exec (.readRecord n h.p1 h.p2) s)
    ∧ (h.code = 0x14 → exec (.hcheckArrival n h) s = exec (.readHeader n h.p1) s)
    ∧ (h.code = 0x15 → exec (.hcheckArrival n h) s = exec (.readBallot n) s)
    ∧ (¬ (0x10 ≤ h.code.toNat ∧ h.code.toNat ≤ 0x15) → writeCodes.contains h.code = false →
        exec (.hcheckArrival n h) s = exec (.unknownCode n h) s))
  ∧ (∀ (n : Port) (s : State), s.live = true → s.passTime.port n =
      if (s.port n).parser = .respond then
        { s.port n with
          byteCount := (s.port n).byteCount + 1,
          parser := if (s.port n).byteCount + 1 < 5 + (s.port n).responseOut.length then .respond else .drain false }
      else s.port n)
  ∧ ((∀ (n : Port) (r : Result) (bytes : List Byte) (k : Nat) (s : State),
      s.respond n r bytes = s.withPort n
        { s.port n with parser := .respond, byteCount := 5, lastResult := r, responseOut := bytes ++ [crc8 bytes] }
      ∧ s.endFrame n r k = s.withPort n
        { s.port n with selected := false, parser := .wait, byteCount := (s.port n).byteCount + k, summaryOut := [],
                        responseOut := [], lastResult := r })
  ∧ ∀ (n : Port) (s : State), (s.port n).selected = true →
      ((s.port n).parser = .wait ∨ (s.port n).parser = .header ∨ (s.port n).parser = .respond
        ∨ (s.port n).parser = .drain false ∨ s.live = false) →
      exec (.chipSelectRelease n) s = .next (s.withPort n
        { s.port n with selected := false, parser := .wait, summaryOut := [], responseOut := [] }))

/-- Discarded frames (R164): a short frame, a bad hcheck, a write frame with too few or too many bytes or a partial byte, and a bad
pcheck end with last result CHECK and FRAME set; an unknown code gives UNKNOWN and FRAME and leaves the parser in DRAIN. Nothing
else changes. The bytes are counted at the release that carries them (log entry 18). -/
def Obligations.DiscardedFramesSetFrameCause : Prop :=
  ∀ (n : Port) (s : State), s.live = true →
    (∀ (bytes : List Byte) (k : Nat),
      ((s.port n).parser = .header ∧ bytes.length < 5 ∧ (bytes ≠ [] ∨ k ≠ 0)
        ∨ (s.port n).parser = .drain true
        ∨ ∃ h : FrameHeader, (s.port n).parser = .payload h ∧
            (k ≠ 0
              ∨ bytes.length ≠ (if h.code = 0x20 then 4 * h.p2.toNat + 1 else if h.code = 0x30 then 13
                                else if h.code = 0x32 then 17 else 0)
              ∨ ((h.code = 0x20 ∨ h.code = 0x30 ∨ h.code = 0x32) ∧ bytes.getLast? ≠ some (crc8 bytes.dropLast)))) →
      exec (.frameDiscard n bytes k) s = .next (s.withPort n
        { s.port n with selected := false, parser := .wait, byteCount := (s.port n).byteCount + bytes.length,
                        summaryOut := [], responseOut := [], lastResult := .check, frame := true }))
    ∧ ∀ h : FrameHeader, (s.port n).parser = .header → h.hcheck = crc8 [h.code, h.p1, h.p2, h.p3] →
        readCodes.contains h.code = false → writeCodes.contains h.code = false →
        exec (.unknownCode n h) s = .next (s.withPort n
          { s.port n with parser := .drain false, byteCount := 5, lastResult := .unknown, frame := true })

/-- R160's check byte: the register of a run of no bytes is FFh; one bit shifts the register and, where the bit shifted out and the
data bit together are one, combines it with 07h; a byte goes in most significant bit first. -/
def Obligations.CheckByteIsCrc8 : Prop :=
  crc8 [] = 0xFF ∧ crc8 [0] = 0xF3 ∧ crc8 [0, 0, 0, 0] = 0xD1
    ∧ (∀ (bytes : List Byte) (b : Byte), crc8 (bytes ++ [b]) = crcByte (crc8 bytes) b)
    ∧ (∀ reg b : Byte, crcByte reg b
        = [b.getLsbD 7, b.getLsbD 6, b.getLsbD 5, b.getLsbD 4, b.getLsbD 3, b.getLsbD 2, b.getLsbD 1, b.getLsbD 0].foldl
            (fun (x : Byte) (bit : Bool) => if (x.getLsbD 7 ^^ bit) = true then (x <<< 1) ^^^ 0x07#8 else x <<< 1) reg)
    ∧ ∀ bytes : List Byte, crc8 (withCheck bytes) = 0

/-! ## Requests on a port -/

/-- STATUS (R167, R187): taken in every exchange state with result OK; its block shows the last result before it. With it the codes of
R189 for every enumeration, and R187's role codes. -/
def Obligations.StatusBlockReportsThePort : Prop :=
  (([ExState.init, .config, .armed, .run, .hold, .stopping, .halted].map ExState.code = [0, 1, 2, 3, 4, 5, 6]
    ∧ [Discipline.master, .seek, .acquire, .track, .locked, .holdover].map Discipline.code = [0, 1, 2, 3, 4, 5]
    ∧ [Mode.master, .follower].map Mode.code = [0, 1]
    ∧ [Health.unpublished, .fresh, .stale].map Health.code = [0, 1, 2]
    ∧ [Staging.empty, .filling, .ready, .blocked].map Staging.code = [0, 1, 2, 3]
    ∧ [Role.pub, .stg, .retired].map Role.code = [1, 2, 3])
  ∧ ([TransferResult.none, .ok, .abortedFreeze, .abortedSwitch, .abortedClear].map TransferResult.code = [0, 1, 2, 3, 4]
    ∧ [DescState.none, .inProgress, .valid, .aborted].map DescState.code = [0, 1, 2, 3]
    ∧ [MissReason.empty, .late, .blocked].map MissReason.code = [1, 2, 3]
    ∧ [SwitchDetail.done, .dropped].map SwitchDetail.code = [1, 2]
    ∧ [Item.start, .stop, .commit, .release, .clear].map Item.code = [1, 2, 3, 4, 5]
    ∧ [Vote.none, .yes, .no].map Vote.code = [0, 1, 2])
  ∧ ([BallotOutcome.passed, .failed, .expired, .cancelled].map BallotOutcome.code = [1, 2, 3, 4]
    ∧ [Reason.none, .veto, .majorityLost, .overlap, .pointBeyondCycle, .timebaseLocked, .toleranceOrder].map Reason.code
        = [0, 1, 2, 3, 4, 5, 6]
    ∧ [Access.closed, .opened, .limited].map Access.code = [0, 1, 2]
    ∧ [Result.ok, .notReady, .check, .unknown, .range, .busy, .windowBusy, .undefined, .notOwner, .notSubscribed, .noData,
        .wrongState, .notMember, .shadowLocked, .ballotBusy, .noBallot, .alreadyVoted].map Result.code = List.range 17
    ∧ [MStatus.ok, .denied, .notReady, .busy, .undefined, .noData, .range, .aborted, .wrongState, .programmed, .check,
        .unknown].map MStatus.code = List.range 12))
  ∧ ∀ (n : Port) (s : State), s.live = true → (s.port n).parser = .header →
    exec (.status n) s = .next (s.respond n .ok
      ([byteOf (16 * s.exchange.code + s.tb.discipline.code),
        (BitVec.ofInt 16 s.tb.trim).extractLsb' 8 8, (BitVec.ofInt 16 s.tb.trim).extractLsb' 0 8, s.tb.cycleNumber,
        (match (s.lane (laneOf n)).hold with
          | .idle => 0 | .waiting _ => 1 | .staging _ _ => 2 | .fetching _ _ _ => 6),
        (match (s.lane (laneOf n)).hold with
          | .idle => 0 | .waiting r => byteOf r.val | .staging r _ => byteOf r.val | .fetching r _ _ => byteOf r.val),
        byteOf (s.lane (laneOf n)).result.code, byteOf (s.port n).lastResult.code, byteOf (s.port n).queue.length,
        byteOf (s.port n).lost]
       ++ [(s.port n).causes.setWidth 8, (s.port n).enables.setWidth 8, byteOf (s.port n).watermark,
           (s.members ++ (s.port n).noteMask : BitVec 8),
           (BitVec.ofNat 16 s.tb.spurious).extractLsb' 8 8, (BitVec.ofNat 16 s.tb.spurious).extractLsb' 0 8]))

/-- TAKE (R64): in INIT it is refused with NOT_READY and eight zero bytes, the queue unchanged; otherwise the head entry is removed
and returned, and an empty queue returns an EMPTY entry that carries the current cycle number. -/
def Obligations.TakeReturnsTheHeadEntry : Prop :=
  ∀ (n : Port) (s : State), s.live = true → (s.port n).parser = .header →
    (s.exchange = .init → exec (.take n) s = .next (s.respond n .notReady [0, 0, 0, 0, 0, 0, 0, 0]))
    ∧ (s.exchange ≠ .init → (s.port n).queue = [] →
        exec (.take n) s = .next (s.respond n .ok [0, 0, 0, 0, s.tb.cycleNumber, 0, 0, 0]))
    ∧ ∀ (e : Entry) (rest : List Entry), s.exchange ≠ .init → (s.port n).queue = e :: rest →
        exec (.take n) s
          = .next ((s.withPort n { s.port n with queue := rest }).respond n .ok
              (match e with
                | .published r v c k => [1, byteOf r.val, v.extractLsb' 8 8, v.extractLsb' 0 8, c, byteOf k, 0, 0]
                | .stale r c => [2, byteOf r.val, 0, 0, c, 0, 0, 0]
                | .recovered r c => [3, byteOf r.val, 0, 0, c, 0, 0, 0]
                | .missed r c m => [4, byteOf r.val, 0, 0, c, 0, byteOf m.code, 0]
                | .ballot c i o => [5, 0, 0, 0, c, 0, byteOf i.code, byteOf o.code]
                | .switch c d => [6, 0, 0, 0, c, 0, byteOf d.code, 0]
                | .exchange c x => [7, 0, 0, 0, c, 0, byteOf x.code, 0]
                | .timebase c d => [8, 0, 0, 0, c, 0, byteOf d.code, 0]))

/-- READ WINDOW (R79): refused with NOT_READY, RANGE or WINDOW_BUSY, in that order, with zero bytes; otherwise it returns the fetch
descriptor and the `count` words from the offset on. -/
def Obligations.ReadWindowReturnsDescriptorAndWords : Prop :=
  ∀ (n : Port) (offset count : Byte) (s : State), s.live = true → (s.port n).parser = .header →
    (s.exchange = .init →
        exec (.readWindow n offset count) s = .next (s.respond n .notReady
          (List.replicate (7 + (if 1 ≤ count.toNat ∧ count.toNat ≤ 32 then 4 * count.toNat else 0)) 0)))
    ∧ (s.exchange ≠ .init →
        ¬ (offset.toNat ≤ 31 ∧ 1 ≤ count.toNat ∧ count.toNat ≤ 32 ∧ offset.toNat + count.toNat ≤ 32) →
        exec (.readWindow n offset count) s = .next (s.respond n .range
          (List.replicate (7 + (if 1 ≤ count.toNat ∧ count.toNat ≤ 32 then 4 * count.toNat else 0)) 0)))
    ∧ (s.exchange ≠ .init → 1 ≤ count.toNat → offset.toNat + count.toNat ≤ 32 →
        ((s.port n).desc.state = .inProgress →
          exec (.readWindow n offset count) s
            = .next (s.respond n .windowBusy (List.replicate (7 + 4 * count.toNat) 0)))
        ∧ ((s.port n).desc.state ≠ .inProgress →
          exec (.readWindow n offset count) s = .next (s.respond n .ok
            ([byteOf (s.port n).desc.state.code, byteOf (s.port n).desc.record.val,
              (s.port n).desc.version.extractLsb' 8 8, (s.port n).desc.version.extractLsb' 0 8,
              byteOf (s.port n).desc.health.code, (s.port n).desc.lastCycle, byteOf (s.port n).desc.length]
            ++ (List.range count.toNat).flatMap fun i =>
                be32 ((s.port n).readWindow.toList.getD (offset.toNat + i) 0)))))

/-- READ RECORD, READ HEADER and READ BALLOT (R13, R14, R126, R187): refused with NOT_READY, the first two then with RANGE, with zero
bytes; READ RECORD returns the definition and the runtime block, zero for the shadow; READ HEADER the header of the image named; READ
BALLOT the ballot block, with vote NONE for a port that is not a member. -/
def Obligations.ReadRequestsReturnTheTableAndTheBallot : Prop :=
  (∀ (n : Port) (s : State), s.live = true → (s.port n).parser = .header →
    (∀ record image : Byte,
      (s.exchange = .init →
          exec (.readRecord n record image) s = .next (s.respond n .notReady (List.replicate 22 0)))
      ∧ (s.exchange ≠ .init → 128 ≤ record.toNat ∨ 2 ≤ image.toNat →
          exec (.readRecord n record image) s = .next (s.respond n .range (List.replicate 22 0)))
      ∧ ∀ r : RecNo, s.exchange ≠ .init → record.toNat = r.val →
          (image = 0 → exec (.readRecord n record image) s
              = .next (s.respond n .ok (defBytes (s.activeDef r) ++ runtimeBytes (s.runtime r))))
          ∧ (image = 1 → exec (.readRecord n record image) s
              = .next (s.respond n .ok (defBytes (s.shadowDef r) ++ List.replicate 10 0))))
    ∧ ∀ image : Byte,
      (s.exchange = .init → exec (.readHeader n image) s = .next (s.respond n .notReady (List.replicate 16 0)))
      ∧ (s.exchange ≠ .init → 2 ≤ image.toNat →
          exec (.readHeader n image) s = .next (s.respond n .range (List.replicate 16 0)))
      ∧ (s.exchange ≠ .init → image = 0 →
          exec (.readHeader n image) s = .next (s.respond n .ok (headerBytes s.active.header)))
      ∧ (s.exchange ≠ .init → image = 1 →
          exec (.readHeader n image) s = .next (s.respond n .ok (headerBytes s.shadow.header))))
  ∧ (∀ (n : Port) (s : State), s.live = true → (s.port n).parser = .header →
    (s.exchange = .init → exec (.readBallot n) s = .next (s.respond n .notReady (List.replicate 12 0)))
    ∧ (s.exchange ≠ .init →
        exec (.readBallot n) s = .next (s.respond n .ok
          ((match s.ballot.current with
            | none => [0, 0, 0, 0, s.members.setWidth 8, 0, 0]
            | some b =>
              let vote (p : Port) : Nat := if s.members.getLsbD p.val = true then b.votes[p].code else 0
              [1, byteOf b.item.code, byteOf b.opener.val,
               byteOf (vote 0 + 4 * vote 1 + 16 * vote 2 + 64 * vote 3), s.members.setWidth 8, byteOf b.elapsed,
               byteOf b.limit])
          ++ [if s.switchPending = true then 1 else 0,
              byteOf ((s.ballot.last.item.map Item.code).getD 0),
              byteOf ((s.ballot.last.outcome.map BallotOutcome.code).getD 0),
              byteOf s.ballot.last.reason.code, byteOf s.ballot.last.record.val]))))

/-- WRITE WINDOW (R78): refused with NOT_READY, RANGE or WINDOW_BUSY, in that order, the window unchanged; otherwise each word of
the payload, four bytes most significant first, goes to its place from the offset on. -/
def Obligations.WriteWindowSetsItsWords : Prop :=
  ∀ (n : Port) (offset count p3 hc : Byte) (payload : List Byte) (s : State), s.live = true →
    (s.port n).parser = .payload ⟨0x20, offset, count, p3, hc⟩ → payload.length = 4 * count.toNat →
    (s.exchange = .init →
        exec (.writeWindow n offset count payload (crc8 payload)) s = .next (s.endFrame n .notReady (payload.length + 1)))
    ∧ (s.exchange ≠ .init →
        ¬ (offset.toNat ≤ 31 ∧ 1 ≤ count.toNat ∧ count.toNat ≤ 32 ∧ offset.toNat + count.toNat ≤ 32) →
        exec (.writeWindow n offset count payload (crc8 payload)) s = .next (s.endFrame n .range (payload.length + 1)))
    ∧ (s.exchange ≠ .init → 1 ≤ count.toNat → offset.toNat + count.toNat ≤ 32 →
        ((s.lane (laneOf n)).hold.isStage = true →
          exec (.writeWindow n offset count payload (crc8 payload)) s = .next (s.endFrame n .windowBusy (payload.length + 1)))
        ∧ ((s.lane (laneOf n)).hold.isStage = false →
          exec (.writeWindow n offset count payload (crc8 payload)) s
            = .next ((s.withPort n
                { s.port n with
                  writeWindow := Vector.ofFn fun i : Fin 32 =>
                    if offset.toNat ≤ i.val ∧ i.val < offset.toNat + count.toNat then
                      (payload.getD (4 * (i.val - offset.toNat)) 0 ++ payload.getD (4 * (i.val - offset.toNat) + 1) 0
                        ++ payload.getD (4 * (i.val - offset.toNat) + 2) 0
                        ++ payload.getD (4 * (i.val - offset.toNat) + 3) 0 : BitVec 32)
                    else (s.port n).writeWindow[i] }).endFrame n .ok (payload.length + 1))))

/-- STAGE r: the checks of R83 in order, each refusal changing nothing but the port's last result; a taken STAGE hands its
stage-start claim (R26) and its lane becomes ACTIVE with word index 0, or WAITING on a BLOCKED record (R84). -/
def Obligations.StageStartsOrIsRefused : Prop :=
  ∀ (n : Port) (record p2 p3 hc : Byte) (s : State), s.live = true →
    (s.port n).parser = .payload ⟨0x21, record, p2, p3, hc⟩ →
    (s.exchange = .init → exec (.stage n record) s = .next (s.endFrame n .notReady 0))
    ∧ (s.exchange ≠ .init → (s.lane (laneOf n)).hold ≠ .idle →
        exec (.stage n record) s = .next (s.endFrame n .busy 0))
    ∧ (s.exchange ≠ .init → (s.lane (laneOf n)).hold = .idle →
        (∀ r : RecNo, record.toNat = r.val → s.activeDef r = none) →
        exec (.stage n record) s = .next (s.endFrame n .undefined 0))
    ∧ ∀ (r : RecNo) (d : RecordDef) (rt : Runtime), s.exchange ≠ .init → (s.lane (laneOf n)).hold = .idle →
        record.toNat = r.val → s.activeDef r = some d → s.runtime r = some rt →
        (d.owner ≠ n → exec (.stage n record) s = .next (s.endFrame n .notOwner 0))
        ∧ (d.owner = n → s.exchange = .halted → exec (.stage n record) s = .next (s.endFrame n .wrongState 0))
        ∧ (d.owner = n → s.exchange ≠ .halted → rt.staging = .empty ∨ rt.staging = .ready →
            exec (.stage n record) s = .next
              ({ s with runtimes := s.runtimes.set r (some { rt with staging := .filling }),
                        lanes := s.lanes.set (laneOf n) ⟨.staging r 0, (s.lane (laneOf n)).result⟩ }.endFrame n .ok 0))
        ∧ (d.owner = n → s.exchange ≠ .halted → rt.staging = .blocked →
            exec (.stage n record) s = .next
              ({ s with runtimes := s.runtimes.set r (some { rt with stageWaiting := true }),
                        lanes := s.lanes.set (laneOf n) ⟨.waiting r, (s.lane (laneOf n)).result⟩ }.endFrame n .ok 0))

/-- FETCH r: the checks of R87 in order; a taken FETCH raises the PUB buffer's pin count by one (R29), captures the descriptor,
zeroes the window from the record's length on and makes the lane ACTIVE with word index 0 (R88). -/
def Obligations.FetchPinsAndCapturesOrIsRefused : Prop :=
  ∀ (n : Port) (record p2 p3 hc : Byte) (s : State), s.live = true →
    (s.port n).parser = .payload ⟨0x22, record, p2, p3, hc⟩ →
    (s.exchange = .init → exec (.fetch n record) s = .next (s.endFrame n .notReady 0))
    ∧ (s.exchange ≠ .init → (s.lane (laneOf n)).hold ≠ .idle →
        exec (.fetch n record) s = .next (s.endFrame n .busy 0))
    ∧ (s.exchange ≠ .init → (s.lane (laneOf n)).hold = .idle →
        (∀ r : RecNo, record.toNat = r.val → s.activeDef r = none) →
        exec (.fetch n record) s = .next (s.endFrame n .undefined 0))
    ∧ ∀ (r : RecNo) (d : RecordDef) (rt : Runtime) (b : Buf), s.exchange ≠ .init → (s.lane (laneOf n)).hold = .idle →
        record.toNat = r.val → s.activeDef r = some d → s.runtime r = some rt →
        (d.owner ≠ n → d.subscribers.getLsbD n.val = false →
            exec (.fetch n record) s = .next (s.endFrame n .notSubscribed 0))
        ∧ (d.owner = n ∨ d.subscribers.getLsbD n.val = true → rt.version = 0 →
            exec (.fetch n record) s = .next (s.endFrame n .noData 0))
        ∧ (d.owner = n ∨ d.subscribers.getLsbD n.val = true → rt.version ≠ 0 → rt.BuffersOk → rt.roles[b] = .pub →
            exec (.fetch n record) s = .next
              (({ s with runtimes := s.runtimes.set r (some { rt with pins := rt.pins.set b (rt.pins[b] + 1) }),
                         lanes := s.lanes.set (laneOf n)
                          ⟨.fetching r 0 b, (s.lane (laneOf n)).result⟩ }.withPort n
                { s.port n with
                  desc := { state := .inProgress, record := r, version := rt.version, health := rt.health,
                            lastCycle := rt.lastCycle, length := d.length },
                  readWindow := Vector.ofFn fun i : Fin 32 =>
                    if i.val < d.length then (s.port n).readWindow[i] else 0 }).endFrame n .ok 0))

/-- ACKNOWLEDGE clears the sticky causes its set names and no others (R69); SET ATTENTION replaces enables, watermark and mask
together (R70); each is refused with NOT_READY, then RANGE, changing no cause. -/
def Obligations.AttentionRequestsChangeCauses : Prop :=
  ∀ (n : Port) (a b c hc : Byte) (s : State), s.live = true →
    ((s.port n).parser = .payload ⟨0x23, a, b, c, hc⟩ →
      (s.exchange = .init → exec (.acknowledge n a) s = .next (s.endFrame n .notReady 0))
      ∧ (s.exchange ≠ .init → 32 ≤ a.toNat → exec (.acknowledge n a) s = .next (s.endFrame n .range 0))
      ∧ (s.exchange ≠ .init → a.toNat < 32 →
          exec (.acknowledge n a) s = .next ((s.withPort n
            { s.port n with
              overflow := (s.port n).overflow && !a.getLsbD 2, xfer := (s.port n).xfer && !a.getLsbD 3,
              frame := (s.port n).frame && !a.getLsbD 4 }).endFrame n .ok 0)))
    ∧ ((s.port n).parser = .payload ⟨0x24, a, b, c, hc⟩ →
      (s.exchange = .init → exec (.setAttention n a b c) s = .next (s.endFrame n .notReady 0))
      ∧ (s.exchange ≠ .init → ¬ (a.toNat < 32 ∧ 1 ≤ b.toNat ∧ b.toNat ≤ 24 ∧ c.toNat < 16) →
          exec (.setAttention n a b c) s = .next (s.endFrame n .range 0))
      ∧ (s.exchange ≠ .init → a.toNat < 32 → 1 ≤ b.toNat → b.toNat ≤ 24 → c.toNat < 16 →
          exec (.setAttention n a b c) s = .next ((s.withPort n
            { s.port n with
              enables := a.setWidth 5, watermark := b.toNat, noteMask := c.setWidth 4 }).endFrame n .ok 0)))

/-- The shadow edits (R8 to R12): NOT_MEMBER, then NOT_READY, then SHADOW_LOCKED (R2), then RANGE, each leaving the shadow as it
was; a taken edit changes the shadow as its rule says and nothing else. -/
def Obligations.ShadowEditsChangeOnlyTheShadow : Prop :=
  ∀ (n : Port) (record p2 p3 hc : Byte) (def12 : Vector Byte 12) (hdr16 : Vector Byte 16) (s : State), s.live = true →
    (∀ (c : Instr) (code : Byte) (after : Nat),
      (c, code, after) ∈ [(Instr.editRecord n record def12 (crc8 def12.toList), (0x30 : Byte), 13),
        (.dropRecord n record, 0x31, 0), (.editHeader n hdr16 (crc8 hdr16.toList), 0x32, 17), (.revertShadow n, 0x33, 0)] →
      (s.port n).parser = .payload ⟨code, record, p2, p3, hc⟩ →
      (s.members.getLsbD n.val = false → exec c s = .next (s.endFrame n .notMember after))
      ∧ (s.members.getLsbD n.val = true → s.exchange = .init → exec c s = .next (s.endFrame n .notReady after))
      ∧ (s.members.getLsbD n.val = true → s.exchange ≠ .init →
          s.switchPending = true ∨ (∃ b, s.ballot.current = some b ∧ b.item = .commit) →
          exec c s = .next (s.endFrame n .shadowLocked after)))
    ∧ (s.members.getLsbD n.val = true → s.exchange ≠ .init → s.switchPending = false →
        (∀ b, s.ballot.current = some b → b.item ≠ .commit) →
        ((s.port n).parser = .payload ⟨0x30, record, p2, p3, hc⟩ →
          (128 ≤ record.toNat ∨ (∀ d : RecordDef, d.inRange = true → def12.toList ≠ defBytes (some d)) →
            exec (.editRecord n record def12 (crc8 def12.toList)) s = .next (s.endFrame n .range 13))
          ∧ ∀ (r : RecNo) (d : RecordDef), record.toNat = r.val → d.inRange = true → def12.toList = defBytes (some d) →
            exec (.editRecord n record def12 (crc8 def12.toList)) s = .next
              ({ s with shadow := { s.shadow with defs := s.shadow.defs.set r (some d) } }.endFrame n .ok 13))
        ∧ ((s.port n).parser = .payload ⟨0x31, record, p2, p3, hc⟩ →
          (128 ≤ record.toNat → exec (.dropRecord n record) s = .next (s.endFrame n .range 0))
          ∧ ∀ r : RecNo, record.toNat = r.val → exec (.dropRecord n record) s = .next
              ({ s with shadow := { s.shadow with defs := s.shadow.defs.set r none } }.endFrame n .ok 0))
        ∧ ((s.port n).parser = .payload ⟨0x32, record, p2, p3, hc⟩ →
          ((∀ h : SchedHeader, h.inRange = true → hdr16.toList ≠ headerBytes h) →
            exec (.editHeader n hdr16 (crc8 hdr16.toList)) s = .next (s.endFrame n .range 17))
          ∧ ∀ h : SchedHeader, h.inRange = true → hdr16.toList = headerBytes h →
            exec (.editHeader n hdr16 (crc8 hdr16.toList)) s = .next
              ({ s with shadow := { s.shadow with header := h } }.endFrame n .ok 17))
        ∧ ((s.port n).parser = .payload ⟨0x33, record, p2, p3, hc⟩ →
          exec (.revertShadow n) s = .next ({ s with shadow := s.active }.endFrame n .ok 0)))

/-- The layouts of definitions and headers and the way a payload is read agree (R187): reading the bytes of a value in range gives that
value, and a payload that is read is the layout of what it gives, so no bit is dropped either way. A value is in range exactly as R3
with R9's cross-field checks, and R5, say. The bytes of a definition, of a runtime block and of a header stand as R187 places them. -/
def Obligations.PayloadLayoutsRoundTrip : Prop :=
  ((∀ (p : Vector Byte 12) (d : RecordDef), parseDef p = some d ↔ d.inRange = true ∧ p.toList = defBytes (some d))
    ∧ ∀ (p : Vector Byte 16) (h : SchedHeader),
        parseHeader p = some h ↔ h.inRange = true ∧ p.toList = headerBytes h)
  ∧ ((∀ d : RecordDef, d.inRange = true ↔
      1 ≤ d.length ∧ d.length ≤ 32 ∧ d.base ≤ 8191 ∧ d.point ≤ 49999 ∧ (∃ k ≤ 7, d.period = 2 ^ k) ∧ d.phase < d.period
        ∧ 1 ≤ d.missLimit ∧ d.missLimit ≤ 15 ∧ d.base + 3 * d.length ≤ 8192 ∧ d.subscribers.getLsbD d.owner.val = false)
    ∧ ∀ h : SchedHeader, h.inRange = true ↔
        (200 ≤ h.cycleTicks ∧ h.cycleTicks ≤ 50000) ∧ (2 ≤ h.acqTol ∧ h.acqTol ≤ 255) ∧ (1 ≤ h.lockTol ∧ h.lockTol ≤ 255)
          ∧ (1 ≤ h.nAcq ∧ h.nAcq ≤ 15) ∧ (1 ≤ h.nLock ∧ h.nLock ≤ 63)
          ∧ (1 ≤ h.holdoverLimit ∧ h.holdoverLimit ≤ 255) ∧ (4 ≤ h.syncWin ∧ h.syncWin ≤ 1023)
          ∧ (1 ≤ h.ballotTime ∧ h.ballotTime ≤ 255))
  ∧ (defBytes none = [0, 0, 0, 0, 0, 0, 0, 0, 1, 0, 0, 0]
    ∧ (∀ d : RecordDef, defBytes (some d) =
        [1, byteOf d.owner.val, d.subscribers.setWidth 8, byteOf d.length, byteOf (d.base / 256), byteOf d.base,
         byteOf (d.point / 256), byteOf d.point, byteOf d.period, byteOf d.phase, byteOf d.missLimit,
         byteOf ((if d.publishNotes = true then 1 else 0) + (if d.missNotes = true then 2 else 0))])
    ∧ runtimeBytes none = [0, 0, 0, 0, 0, 0, 0, 0, 0, 0]
    ∧ (∀ rt : Runtime, runtimeBytes (some rt) =
        [rt.version.extractLsb' 8 8, rt.version.extractLsb' 0 8, byteOf rt.health.code, byteOf rt.missCount, rt.lastCycle,
         byteOf (rt.staging.code + (if rt.stageWaiting = true then 128 else 0)),
         byteOf (rt.roles[0].code + 4 * rt.roles[1].code + 16 * rt.roles[2].code),
         byteOf rt.pins[0], byteOf rt.pins[1], byteOf rt.pins[2]])
    ∧ ∀ h : SchedHeader, headerBytes h =
        [byteOf h.mode.code, byteOf (h.cycleTicks / 256), byteOf h.cycleTicks, byteOf h.acqTol, byteOf h.lockTol,
         byteOf h.nAcq, byteOf h.nLock, byteOf h.holdoverLimit, byteOf (h.syncWin / 256), byteOf h.syncWin,
         byteOf h.ballotTime, 0, 0, 0, 0, 0])

/-! ## Votes, ballots and exchange state -/

/-- R114's table of the states that allow each item, and a change of exchange state (R111, R122): an open ballot whose item the new
state does not allow closes as CANCELLED first; then the state is set and its EXCHANGE note handed to the four queues. -/
def Obligations.StateChangesCancelAndNotify : Prop :=
  (∀ (i : Item) (x : ExState), i.allowedIn x = true ↔
    (i = .start ∧ x = .config)
      ∨ (i = .stop ∧ (x = .armed ∨ x = .run ∨ x = .hold))
      ∨ (i = .commit ∧ (x = .config ∨ x = .armed ∨ x = .run ∨ x = .hold))
      ∨ (i = .release ∧ x = .halted)
      ∨ (i = .clear ∧ (x = .config ∨ x = .halted)))
  ∧ (∀ (s : State) (x : ExState),
    ((∀ b, s.ballot.current = some b → b.item.allowedIn x = true) → s.changeExchange x = s.movedTo x)
    ∧ ∀ b, s.ballot.current = some b → b.item.allowedIn x = false →
        s.changeExchange x = (s.closeBallot b .cancelled .none 0).movedTo x)

/-- VOTE's seven refusals in R115's order, each changing nothing but the port's last result. -/
def Obligations.VoteRefusalsInOrder : Prop :=
  ∀ (n : Port) (item choice p3 hc : Byte) (s : State), s.live = true →
    (s.port n).parser = .payload ⟨0x34, item, choice, p3, hc⟩ →
    (s.members.getLsbD n.val = false → exec (.vote n item choice) s = .next (s.endFrame n .notMember 0))
    ∧ (s.members.getLsbD n.val = true → s.exchange = .init →
        exec (.vote n item choice) s = .next (s.endFrame n .notReady 0))
    ∧ (s.members.getLsbD n.val = true → s.exchange ≠ .init →
        item = 0 ∨ 6 ≤ item.toNat ∨ (choice ≠ 1 ∧ choice ≠ 2) →
        exec (.vote n item choice) s = .next (s.endFrame n .range 0))
    ∧ ∀ i : Item, s.members.getLsbD n.val = true → s.exchange ≠ .init → item.toNat = i.code →
        choice = 1 ∨ choice = 2 →
        (∀ b, s.ballot.current = some b →
          (b.item ≠ i → exec (.vote n item choice) s = .next (s.endFrame n .ballotBusy 0))
          ∧ (b.item = i → i.allowedIn s.exchange = false →
              exec (.vote n item choice) s = .next (s.endFrame n .wrongState 0))
          ∧ (b.item = i → i.allowedIn s.exchange = true → b.votes[n] ≠ Vote.none →
              exec (.vote n item choice) s = .next (s.endFrame n .alreadyVoted 0)))
        ∧ (s.ballot.current = none →
          (i.allowedIn s.exchange = false → exec (.vote n item choice) s = .next (s.endFrame n .wrongState 0))
          ∧ (i.allowedIn s.exchange = true → choice = 2 →
              exec (.vote n item choice) s = .next (s.endFrame n .noBallot 0)))

/-- A YES with no ballot open opens one (R116): only this member's vote YES, elapsed 0, the limit the active header's ballot time. A
COMMIT whose validation fails closes at once as FAILED with the reason and record (R117). A single member's ballot passes in the
same step; any other stays open (R119, R120). -/
def Obligations.YesVoteOpensBallot : Prop :=
  ∀ (n : Port) (i : Item) (p3 hc : Byte) (s : State), s.live = true →
    (s.port n).parser = .payload ⟨0x34, byteOf i.code, 1, p3, hc⟩ →
    s.members.getLsbD n.val = true → s.exchange ≠ .init → i.allowedIn s.exchange = true → s.ballot.current = none →
    let b : OpenBallot :=
      ⟨i, (Vector.replicate 4 Vote.none).set n .yes, n, 0, s.active.header.ballotTime⟩
    (∀ (reason : Reason) (r : RecNo), i = .commit → s.validate = some (reason, r) →
        exec (.vote n (byteOf i.code) 1) s = .next ((s.closeBallot b .failed reason r).endFrame n .ok 0))
    ∧ (i ≠ .commit ∨ s.validate = none → 1 < s.memberCount →
        exec (.vote n (byteOf i.code) 1) s
          = .next ({ s with ballot := { s.ballot with current := some b } }.endFrame n .ok 0))
    ∧ (i ≠ .commit ∨ s.validate = none → s.memberCount = 1 →
        exec (.vote n (byteOf i.code) 1) s
          = .next (((s.closeBallot b .passed .none 0).passEffect i).endFrame n .ok 0))

/-- A vote in the open ballot of its item is recorded and the item's rule evaluated in the same step (R118): with no decision the
ballot stays open, elapsed time, limit and opener unchanged; a failure closes it; a pass closes it and has its effect. -/
def Obligations.VoteIsRecordedAndDecided : Prop :=
  ∀ (n : Port) (b : OpenBallot) (choice p3 hc : Byte) (v : Vote) (s : State), s.live = true →
    (s.port n).parser = .payload ⟨0x34, byteOf b.item.code, choice, p3, hc⟩ →
    s.members.getLsbD n.val = true → s.exchange ≠ .init → b.item.allowedIn s.exchange = true →
    s.ballot.current = some b → b.votes[n] = Vote.none → (choice = 1 ∧ v = .yes) ∨ (choice = 2 ∧ v = .no) →
    let b' : OpenBallot := { b with votes := b.votes.set n v }
    (s.decision b' = none →
        exec (.vote n (byteOf b.item.code) choice) s
          = .next ({ s with ballot := { s.ballot with current := some b' } }.endFrame n .ok 0))
    ∧ (∀ reason, s.decision b' = some (.failed, reason) →
        exec (.vote n (byteOf b.item.code) choice) s
          = .next ((s.closeBallot b' .failed reason 0).endFrame n .ok 0))
    ∧ (s.decision b' = some (.passed, .none) →
        exec (.vote n (byteOf b.item.code) choice) s
          = .next (((s.closeBallot b' .passed .none 0).passEffect b.item).endFrame n .ok 0))

/-- R119 and R120: under the unanimous rule of START, COMMIT, RELEASE and CLEAR a NO fails the ballot with VETO and a YES from every
member passes it; under the majority rule of STOP more than half of the members' YES votes pass it, and it fails with MAJORITY_LOST
once the NO votes leave that out of reach; otherwise the ballot waits. -/
def Obligations.BallotRulesDecide : Prop :=
  (∀ (b : OpenBallot) (s : State), b.item ≠ .stop →
    ((∃ n : Port, s.members.getLsbD n.val = true ∧ b.votes[n] = .no) → s.decision b = some (.failed, .veto))
    ∧ ((∀ n : Port, s.members.getLsbD n.val = true → b.votes[n] = .yes) → s.decision b = some (.passed, .none))
    ∧ ((∀ n : Port, s.members.getLsbD n.val = true → b.votes[n] ≠ .no) →
        (∃ n : Port, s.members.getLsbD n.val = true ∧ b.votes[n] = Vote.none) → s.decision b = none))
  ∧ (∀ (b : OpenBallot) (s : State), b.item = .stop →
    (s.memberCount < 2 * s.votesCast b .yes → s.decision b = some (.passed, .none))
    ∧ (2 * s.votesCast b .yes ≤ s.memberCount → 2 * (s.memberCount - s.votesCast b .no) ≤ s.memberCount →
        s.decision b = some (.failed, .majorityLost))
    ∧ (2 * s.votesCast b .yes ≤ s.memberCount → s.memberCount < 2 * (s.memberCount - s.votesCast b .no) →
        s.decision b = none)
    ∧ ∀ v : Vote, s.votesCast b v
        = ([0, 1, 2, 3].filter fun n : Port => s.members.getLsbD n.val = true ∧ b.votes[n] = v).length)

/-- Every close records the last outcome, returns the record to NONE and hands the BALLOT note to each member (R124); nothing else
changes. The ballot timer (R121): each 10 ms raises the open ballot's elapsed time by one up to its limit; at the limit the ballot
closes EXPIRED with reason NONE (log entry 23: the two are commands of their own). -/
def Obligations.ClosesNotifyAndTheTimerExpires : Prop :=
  (∀ (b : OpenBallot) (o : BallotOutcome) (reason : Reason) (r : RecNo) (s : State),
    s.closeBallot b o reason r
      = { s with ballot := ⟨none, ⟨some b.item, some o, reason, r⟩⟩,
                 ports := Vector.ofFn fun n =>
                   if s.members.getLsbD n.val = true then
                     (s.port n).accept (.ballot s.tb.cycleNumber b.item o)
                   else s.port n })
  ∧ ∀ (s : State) (b : OpenBallot), s.live = true → s.ballot.current = some b →
    (b.elapsed < b.limit → exec .ballotTimerTick s = .next
      { s with ballot := { s.ballot with current := some { b with elapsed := b.elapsed + 1 } } })
    ∧ (b.limit ≤ b.elapsed → exec .ballotExpiry s = .next (s.closeBallot b .expired .none 0))

/-- The effect of each passed item (R125), with no ballot open: START to ARMED; STOP to STOPPING from RUN and to CONFIG from ARMED
and HOLD, a pending switch applied first (R101); COMMIT the switch at once in CONFIG and the flag elsewhere; RELEASE to CONFIG.
Each change of state hands its EXCHANGE note. -/
def Obligations.PassedBallotsHaveTheirEffect : Prop :=
  ∀ s : State, s.ballot.current = none →
    s.passEffect .start = s.movedTo .armed
    ∧ (s.exchange = .run → s.passEffect .stop = s.movedTo .stopping)
    ∧ (s.exchange = .armed ∨ s.exchange = .hold → s.switchPending = true →
        s.passEffect .stop = s.applySwitch.movedTo .config)
    ∧ (s.exchange = .armed ∨ s.exchange = .hold → s.switchPending = false → s.passEffect .stop = s.movedTo .config)
    ∧ (s.exchange = .config → s.passEffect .commit = s.applySwitch)
    ∧ (s.exchange ≠ .config → s.passEffect .commit = { s with switchPending := true })
    ∧ (s.switchPending = false → s.passEffect .release = s.movedTo .config)

/-- The passing of CLEAR (R93, R109, R74, R128): every lane that holds a transfer ends with ABORTED_CLEAR without a claim, XFER and
ABORTED descriptors as R93 gives; the queues hold only the EXCHANGE note for INIT; INIT is entered (R99). Enables, watermark, mask,
windows, parsers, last results, members, access state and the ballot record stay. -/
def Obligations.PassedClearEntersInit : Prop :=
  ∀ s : State, ∃ t, s.passEffect .clear = t
    ∧ t.exchange = .init ∧ t.clearing = true ∧ t.switchPending = false
    ∧ t.active = ⟨Vector.replicate 128 none, s.opt.resetHeader⟩ ∧ t.shadow = t.active
    ∧ (∀ r : RecNo, t.runtime r = none)
    ∧ (∀ l : LaneNo, t.lane l = if (s.lane l).hold = .idle then s.lane l else ⟨.idle, .abortedClear⟩)
    ∧ (∀ n : Port, t.port n =
        { s.port n with
          queue := if (s.port n).noteMask.getLsbD 2 = true then [.exchange 0 .init] else [],
          lost := 0,
          xfer := (s.port n).xfer || decide ((s.lane (laneOf n)).hold ≠ .idle),
          desc := if (s.lane (laneOf n)).hold.isFetch = true then { (s.port n).desc with state := .aborted }
                  else (s.port n).desc })
    ∧ t.tb = { running := false, tickCount := 0, tickHanded := false, cycleNumber := 0, trim := 0,
               discipline := if t.active.header.mode = .master then .master else .seek, acquireRun := 0, lockRun := 0,
               missedRun := 0, holdoverCount := 0, startCredit := false, nextCredit := false, spurious := 0,
               missedMade := false, syncOut := false, syncOutAge := 0 }
    ∧ t.ml = { s.ml with dataPeek := if (s.lane lm).hold = .idle then s.ml.dataPeek
                         else s.ml.dataPeek.map fun d => { d with status := .aborted } }
    ∧ t.pending = s.pending ∧ t.powered = s.powered ∧ t.resetLow = s.resetLow ∧ t.members = s.members
    ∧ t.arbiter = s.arbiter ∧ t.store = s.store ∧ t.ballot = s.ballot ∧ t.opt = s.opt

/-- COMMIT validation (R16, R17): the first of its four checks that fails, with the record it names. -/
def Obligations.ValidationReportsTheFirstFailure : Prop :=
  ∀ s : State,
    let shares (i j : RecNo) : Prop := ∃ d e, s.shadowDef i = some d ∧ s.shadowDef j = some e
      ∧ d.base < e.base + 3 * e.length ∧ e.base < d.base + 3 * d.length
    let beyond (r : RecNo) : Prop := ∃ d, s.shadowDef r = some d ∧ s.shadow.header.cycleTicks ≤ d.point
    let locked : Prop := s.exchange ≠ .config ∧
      (s.shadow.header.mode ≠ s.active.header.mode ∨ s.shadow.header.cycleTicks ≠ s.active.header.cycleTicks
        ∨ s.shadow.header.acqTol ≠ s.active.header.acqTol ∨ s.shadow.header.lockTol ≠ s.active.header.lockTol
        ∨ s.shadow.header.nAcq ≠ s.active.header.nAcq ∨ s.shadow.header.nLock ≠ s.active.header.nLock
        ∨ s.shadow.header.holdoverLimit ≠ s.active.header.holdoverLimit
        ∨ s.shadow.header.syncWin ≠ s.active.header.syncWin)
    let disorder : Prop := s.shadow.header.acqTol < s.shadow.header.lockTol
      ∨ s.shadow.header.syncWin ≤ s.shadow.header.acqTol ∨ s.shadow.header.cycleTicks ≤ 4 * s.shadow.header.syncWin
    (∀ i : RecNo, (∃ j, i < j ∧ shares i j) → (∀ i' j', i' < i → i' < j' → ¬ shares i' j') →
        s.validate = some (.overlap, i))
    ∧ (∀ r : RecNo, (∀ i j, i < j → ¬ shares i j) → beyond r → (∀ r', r' < r → ¬ beyond r') →
        s.validate = some (.pointBeyondCycle, r))
    ∧ ((∀ i j, i < j → ¬ shares i j) → (∀ r, ¬ beyond r) →
        (locked → s.validate = some (.timebaseLocked, 0))
        ∧ (¬ locked → disorder → s.validate = some (.toleranceOrder, 0))
        ∧ (¬ locked → ¬ disorder → s.validate = none))

/-- FREEZE from a port and from the maintenance line (R28, R91, R106, R107, R138, R179): in INIT refused with NOT_READY; in HALTED it
changes nothing; elsewhere the held STAGEs are aborted, a disallowed ballot is cancelled, a pending switch is dropped and the
exchange is HALTED, in that order. With LIMITED access the line's FREEZE is DENIED. An aborted lane is IDLE with ABORTED_FREEZE, its
record's staging goes from FILLING to EMPTY or its stage waiting to no, and its port's XFER is set; FETCHes and LM go on. -/
def Obligations.FreezeHaltsTheExchange : Prop :=
  (∀ s : State,
    (∀ (n : Port) (p1 p2 p3 hc : Byte), s.live = true → (s.port n).parser = .payload ⟨0x40, p1, p2, p3, hc⟩ →
      (s.exchange = .init → exec (.freeze n) s = .next (s.endFrame n .notReady 0))
      ∧ (s.exchange = .halted → exec (.freeze n) s = .next (s.endFrame n .ok 0))
      ∧ (s.exchange ≠ .init → exec (.freeze n) s = .next (s.freezeExchange.endFrame n .ok 0)))
    ∧ (s.live = true → s.ml.Free → s.ml.parser = .idle →
      let answer (x : State) (a st : Byte) : State := { x with ml := { x.ml with
        parser := .answering, line := .echoing, sent := .echoThenResponse 0x0A [a, st, crc8 [a, st]] } }
      (s.ml.access = .limited → exec .freezeCommand s = .next (answer s 0x5A 0x01))
      ∧ (s.ml.access = .opened → s.exchange = .init → exec .freezeCommand s = .next (answer s 0x5A 0x02))
      ∧ (s.ml.access = .opened → s.exchange ≠ .init → exec .freezeCommand s = .next (answer s.freezeExchange 0xA5 0x00)))
    ∧ (s.exchange = .halted → s.freezeExchange = s)
    ∧ (s.exchange ≠ .halted →
        let u := s.freezeAborts
        let v := match s.ballot.current with
          | some b => if b.item.allowedIn .halted = true then u else u.closeBallot b .cancelled .none 0
          | none => u
        let w := if s.switchPending = true then
            { v with switchPending := false }.notedAll (.switch s.tb.cycleNumber .dropped) else v
        s.freezeExchange = w.movedTo .halted))
  ∧ (∀ s : State, ∃ t, s.freezeAborts = t
    ∧ (∀ n : Port, t.lane (laneOf n) = if (s.lane (laneOf n)).hold.isStage = true then ⟨.idle, .abortedFreeze⟩
        else s.lane (laneOf n))
    ∧ t.lane lm = s.lane lm
    ∧ (∀ n : Port, t.port n = { s.port n with xfer := (s.port n).xfer || (s.lane (laneOf n)).hold.isStage })
    ∧ (∀ r : RecNo,
        ((∀ (n : Port) (i : Nat), (s.lane (laneOf n)).hold ≠ .staging r i ∧ (s.lane (laneOf n)).hold ≠ .waiting r) →
          t.runtime r = s.runtime r)
        ∧ ∀ rt, s.runtime r = some rt → rt.BuffersOk →
          ((∃ (n : Port) (i : Nat), (s.lane (laneOf n)).hold = .staging r i) → rt.staging = .filling →
            t.runtime r = some { rt with staging := .empty })
          ∧ ((∃ n : Port, (s.lane (laneOf n)).hold = .waiting r) → rt.staging = .blocked →
            t.runtime r = some { rt with stageWaiting := false }))
    ∧ t = { s with lanes := t.lanes, runtimes := t.runtimes, ports := t.ports })

/-- PORT RESET (R94, R123, R168): taken in every state with result OK. The lane's STAGE hands its stage-abort claim or its FETCH its
unpin claim; the lane is IDLE with result NONE; queue, windows and attention take their reset values; a member's vote in the open
ballot returns to NONE with no evaluation. The byte count that stays until the next assertion is the model's (log entry 18). -/
def Obligations.PortResetResetsItsPort : Prop :=
  ∀ (n : Port) (p1 p2 p3 hc : Byte) (s : State), s.live = true → (s.port n).parser = .payload ⟨0x4F, p1, p2, p3, hc⟩ →
    ∃ t, exec (.portReset n) s = .next t
      ∧ t.lane (laneOf n) = ⟨.idle, .none⟩
      ∧ t.port n =
          { selected := false, parser := .wait, byteCount := (s.port n).byteCount, summaryOut := [], responseOut := [],
            lastResult := .ok, writeWindow := Vector.replicate 32 0, readWindow := Vector.replicate 32 0,
            desc := { state := .none, record := 0, version := 0, health := .unpublished, lastCycle := 0, length := 0 },
            queue := [], lost := 0, overflow := false, xfer := false, frame := false, enables := 0b11101#5,
            watermark := 16, noteMask := 0b1111#4 }
      ∧ (∀ m : Port, m ≠ n → t.port m = s.port m)
      ∧ t.ballot = (if s.members.getLsbD n.val = true then
            { s.ballot with current := s.ballot.current.map fun b => { b with votes := b.votes.set n Vote.none } }
          else s.ballot)
      ∧ ((s.lane (laneOf n)).hold = .idle → t.runtimes = s.runtimes ∧ ∀ l, l ≠ laneOf n → t.lane l = s.lane l)
      ∧ (∀ r i, (s.lane (laneOf n)).hold = .staging r i →
          (∀ rt, s.runtime r = some rt → rt.staging = .filling → t.runtime r = some { rt with staging := .empty })
          ∧ (∀ r', r' ≠ r → t.runtime r' = s.runtime r') ∧ ∀ l, l ≠ laneOf n → t.lane l = s.lane l)
      ∧ (∀ r, (s.lane (laneOf n)).hold = .waiting r →
          (∀ rt, s.runtime r = some rt → t.runtime r = some { rt with stageWaiting := false })
          ∧ (∀ r', r' ≠ r → t.runtime r' = s.runtime r') ∧ ∀ l, l ≠ laneOf n → t.lane l = s.lane l)
      ∧ (∀ r i b, (s.lane (laneOf n)).hold = .fetching r i b →
          t.runtimes = ((s.endTransfer (laneOf n) .none).unpinClaim r b).runtimes
          ∧ t.lanes = ((s.endTransfer (laneOf n) .none).unpinClaim r b).lanes)
      ∧ t = { s with lanes := t.lanes, runtimes := t.runtimes, ports := t.ports, ballot := t.ballot }

/-! ## Transfers and the store -/

/-- R82's arbiter: the lane granted next is the first lane with a word left to move that follows the lane granted last in the
cyclic order L0, L1, L2, L3, LM; with none the command changes nothing. A lane whose word index has reached the length has no word
left; no run leaves one (log entry 11). -/
def Obligations.ArbiterGrantsInCyclicOrder : Prop :=
  (∀ (s : State) (l : LaneNo), s.nextGrant = some l ↔
      s.wantsAccess l = true ∧
        ∃ k : Fin 5, l = s.arbiter + 1 + k ∧ ∀ j : Fin 5, j < k → s.wantsAccess (s.arbiter + 1 + j) = false)
    ∧ (∀ s : State, (∀ l, s.wantsAccess l = false) → exec .wordAccess s = .next s)
    ∧ ∀ (s : State) (l : LaneNo), s.wantsAccess l = true ↔
        (∃ (n : Port) (r : RecNo) (i : Nat) (d : RecordDef) (rt : Runtime) (b : Buf), l = laneOf n
            ∧ (s.lane l).hold = .staging r i ∧ s.activeDef r = some d ∧ i < d.length
            ∧ s.runtime r = some rt ∧ rt.roles[b] = .stg)
          ∨ ∃ (r : RecNo) (i : Nat) (b : Buf) (d : RecordDef),
              (s.lane l).hold = .fetching r i b ∧ s.activeDef r = some d ∧ i < d.length

/-- One granted word (R19, R82, R90): a STAGE writes window word i to word base + k × length + i of the store, k being the STG
buffer; a FETCH reads that word of its pinned buffer into word i of the read window, or of the peek buffer on LM. The lane's word
index rises by one, the lane becomes the one granted last, every other store word and everything else stays. With the last word the
transfer ends in the same step (R27, R85, R89, R90, R95): the lane is IDLE with OK; a STAGE's record becomes READY; a FETCH makes its
descriptor VALID and hands its unpin claim; the port's XFER is set; LM reports completion instead. -/
def Obligations.WordAccessMovesOneWord : Prop :=
  ∀ (s : State) (l : LaneNo) (r : RecNo) (i : Nat) (d : RecordDef), s.live = true → s.nextGrant = some l → s.StoreOk →
    s.activeDef r = some d → d.base + 3 * d.length ≤ 8192 → d.length ≤ 32 →
    (∀ (n : Port) (rt : Runtime) (b : Buf), l = laneOf n → (s.lane l).hold = .staging r i → s.runtime r = some rt →
        rt.BuffersOk → rt.roles[b] = .stg →
        ∃ u : State,
          u = { s with arbiter := l, lanes := s.lanes.set l ⟨.staging r (i + 1), (s.lane l).result⟩, store := u.store }
          ∧ u.StoreOk
          ∧ (∀ a, u.store.read a = if a = d.base + b.val * d.length + i then (s.port n).writeWindow.toList.getD i 0
              else s.store.read a)
          ∧ (i + 1 < d.length → exec .wordAccess s = .next u)
          ∧ (d.length ≤ i + 1 → rt.staging = .filling →
              exec .wordAccess s = .next
                ({ u with lanes := u.lanes.set l ⟨.idle, .ok⟩,
                          runtimes := u.runtimes.set r (some { rt with staging := .ready }) }.withPort n
                  { u.port n with xfer := true })))
    ∧ (∀ (n : Port) (b : Buf), l = laneOf n → (s.lane l).hold = .fetching r i b →
        let u : State := { s with
          arbiter := l, lanes := s.lanes.set l ⟨.fetching r (i + 1) b, (s.lane l).result⟩ }.withPort n
            { s.port n with
              readWindow := Vector.ofFn fun j : Fin 32 =>
                if j.val = i then s.store.read (d.base + b.val * d.length + i) else (s.port n).readWindow[j] }
        (i + 1 < d.length → exec .wordAccess s = .next u)
        ∧ (d.length ≤ i + 1 → exec .wordAccess s = .next
            (({ u with lanes := u.lanes.set l ⟨.idle, .ok⟩ }.withPort n
              { u.port n with xfer := true, desc := { (u.port n).desc with state := .valid } }).unpinClaim r b)))
    ∧ ∀ b : Buf, l = lm → (s.lane l).hold = .fetching r i b →
        let u : State := { s with
          arbiter := l, lanes := s.lanes.set l ⟨.fetching r (i + 1) b, (s.lane l).result⟩,
          ml := { s.ml with
            peekBuf := Vector.ofFn fun j : Fin 32 =>
              if j.val = i then s.store.read (d.base + b.val * d.length + i) else s.ml.peekBuf[j] } }
        (i + 1 < d.length → exec .wordAccess s = .next u)
        ∧ (d.length ≤ i + 1 → exec .wordAccess s = .next
            ({ u with
              lanes := u.lanes.set l ⟨.idle, .ok⟩,
              ml := { u.ml with dataPeek := u.ml.dataPeek.map fun (p : DataPeek) => { p with status := .completed } } }.unpinClaim r b))

/-- STAGE_COMPLETE, FETCH_COMPLETE and LM_COMPLETE (R27, R85, R89, R90) where the word index has reached the record's length: the lane is
IDLE with OK; a STAGE's record becomes READY; a FETCH makes its descriptor VALID and hands its unpin claim; the port's XFER is set; LM
reports completion instead. WORD_ACCESS makes that end with the last word in its own step, so these clauses start from states that no
run reaches (log entry 11). The unpin claim (R30, R34, R86): the buffer's count falls by one; where that brings a RETIRED buffer of a
BLOCKED record to 0 the buffer becomes STG, with staging EMPTY, or FILLING where the owner's STAGE waits, whose lane becomes ACTIVE
from word 0 in the same step. WAITING_STAGE_START makes that start where such a buffer stands unpinned with the STAGE waiting; the
claims of this model leave no such state between steps (log entry 3), so its clause starts from one that no run reaches. -/
def Obligations.TransfersEndAndFreeBuffers : Prop :=
  (∀ (s : State) (r : RecNo) (i : Nat) (d : RecordDef) (rt : Runtime), s.live = true → s.activeDef r = some d →
    s.runtime r = some rt → d.length ≤ i →
    (∀ n : Port, (s.lane (laneOf n)).hold = .staging r i → rt.staging = .filling →
        exec (.stageComplete n) s = .next
          ({ s with lanes := s.lanes.set (laneOf n) ⟨.idle, .ok⟩,
                    runtimes := s.runtimes.set r (some { rt with staging := .ready }) }.withPort n
            { s.port n with xfer := true }))
    ∧ (∀ (n : Port) (b : Buf), (s.lane (laneOf n)).hold = .fetching r i b →
        exec (.fetchComplete n) s = .next
          (({ s with lanes := s.lanes.set (laneOf n) ⟨.idle, .ok⟩ }.withPort n
            { s.port n with xfer := true, desc := { (s.port n).desc with state := .valid } }).unpinClaim r b))
    ∧ ∀ b : Buf, (s.lane lm).hold = .fetching r i b →
        exec .lmComplete s = .next
          ({ s with lanes := s.lanes.set lm ⟨.idle, .ok⟩,
                    ml := { s.ml with dataPeek := s.ml.dataPeek.map fun (p : DataPeek) => { p with status := .completed } } }.unpinClaim r b))
  ∧ (∀ (s : State) (r : RecNo) (b : Buf) (d : RecordDef) (rt : Runtime), s.activeDef r = some d → s.runtime r = some rt →
    0 < rt.pins[b] →
    (rt.staging ≠ .blocked ∨ rt.roles[b] ≠ .retired ∨ 1 < rt.pins[b] →
        s.unpinClaim r b = { s with runtimes := s.runtimes.set r (some { rt with pins := rt.pins.set b (rt.pins[b] - 1) }) })
    ∧ (rt.staging = .blocked → rt.roles[b] = .retired → rt.pins[b] = 1 →
        (rt.stageWaiting = false →
          s.unpinClaim r b = { s with runtimes := s.runtimes.set r (some
            { rt with pins := rt.pins.set b 0, roles := rt.roles.set b .stg, staging := .empty }) })
        ∧ (rt.stageWaiting = true → (s.lane (laneOf d.owner)).hold = .waiting r →
          s.unpinClaim r b = { s with
            runtimes := s.runtimes.set r (some
              { rt with pins := rt.pins.set b 0, roles := rt.roles.set b .stg, staging := .filling, stageWaiting := false }),
            lanes := s.lanes.set (laneOf d.owner) ⟨.staging r 0, (s.lane (laneOf d.owner)).result⟩ })))
  ∧ (∀ (s : State) (n : Port) (r : RecNo) (rt : Runtime) (b : Buf), s.live = true →
    (s.lane (laneOf n)).hold = .waiting r → s.runtime r = some rt → rt.staging = .blocked → rt.stageWaiting = true →
    rt.roles[b] = .retired → rt.pins[b] = 0 → (∀ b' : Buf, b' < b → ¬ (rt.roles[b'] = .retired ∧ rt.pins[b'] = 0)) →
    exec (.waitingStageStart n) s = .next { s with
      runtimes := s.runtimes.set r (some
        { rt with roles := rt.roles.set b .stg, staging := .filling, stageWaiting := false }),
      lanes := s.lanes.set (laneOf n) ⟨.staging r 0, (s.lane (laneOf n)).result⟩ })

/-- R76's law: while a port's lane holds a STAGE, no step but PORT RESET of that port and the resets of the whole part changes its
write window. -/
def Obligations.HeldStageKeepsItsWriteWindow : Prop :=
  ∀ (c : Instr) (s t : State) (n : Port), exec c s = .next t → (s.lane (laneOf n)).hold.isStage = true →
    (∀ memb, c ≠ .powerOn memb) → c ≠ .resetN → c ≠ .portReset n →
    (t.port n).writeWindow = (s.port n).writeWindow

/-- R35: no step changes a store word of a buffer that a FETCH has pinned, except the end of a store clear. The premises are the
laws of the transfers and of the active image, which every step keeps. -/
def Obligations.PinnedBuffersKeepTheirWords : Prop :=
  ∀ (c : Instr) (s t : State) (r : RecNo) (d : RecordDef) (rt : Runtime) (b : Buf) (i : Nat),
    exec c s = .next t → c ≠ .clearDone → s.StoreOk → s.TransfersOk → s.TableOk → s.active.Validated →
    s.activeDef r = some d → s.runtime r = some rt → 0 < rt.pins[b] → i < d.length →
    t.store.read (d.base + b.val * d.length + i) = s.store.read (d.base + b.val * d.length + i)

/-! ## The schedule switch -/

/-- A switch (R130 to R134, R137, R139): each lane that holds a transfer on a reset or dropped record ends with ABORTED_SWITCH and no
claim; the shadow becomes the active image; a kept record keeps its runtime with miss count 0, a reset one takes the initial values,
a dropped one has none; the flag clears; in CONFIG a changed timebase field restarts the Timebase; the SWITCH note DONE is handed to
the four queues. The SWITCH row by itself applies a switch that is pending in CONFIG, and does nothing elsewhere, where the next cycle
start applies it in its own step (R105, R135); no run leaves one pending in CONFIG (R129), so its first clause starts from a state
that no run reaches (log entry 2: when the row is due by itself is the model's inference). -/
def Obligations.SwitchInstallsTheShadow : Prop :=
  (∀ s : State, ∃ t, s.applySwitch = t
    ∧ t.active = s.shadow ∧ t.shadow = s.shadow ∧ t.switchPending = false
    ∧ (∀ r : RecNo, t.runtime r =
        match s.activeDef r, s.shadowDef r with
        | some a, some b =>
          if a.owner = b.owner ∧ a.length = b.length ∧ a.base = b.base then
            (s.runtime r).map fun rt => { rt with missCount := 0 }
          else some { version := 0, health := .unpublished, missCount := 0, lastCycle := 0, staging := .empty,
                      roles := #v[.pub, .stg, .retired], pins := #v[0, 0, 0], stageWaiting := false }
        | none, some _ => some { version := 0, health := .unpublished, missCount := 0, lastCycle := 0, staging := .empty,
                                 roles := #v[.pub, .stg, .retired], pins := #v[0, 0, 0], stageWaiting := false }
        | _, none => none)
    ∧ (∀ l : LaneNo, t.lane l =
        if (s.lane l).hold.record.any s.switchAborts = true then ⟨.idle, .abortedSwitch⟩ else s.lane l)
    ∧ t.tb = (if s.exchange = .config ∧ s.shadow.header.sameTimebase s.active.header = false then
          { running := true, tickCount := 0, tickHanded := false, cycleNumber := 0, trim := 0,
            discipline := if s.shadow.header.mode = .master then .master else .seek, acquireRun := 0, lockRun := 0,
            missedRun := 0, holdoverCount := 0, startCredit := false, nextCredit := false, spurious := 0,
            missedMade := false, syncOut := false, syncOutAge := 0 }
        else s.tb)
    ∧ (∀ n : Port, t.port n =
        let ends := (s.lane (laneOf n)).hold.record.any s.switchAborts
        { s.port n with
          xfer := (s.port n).xfer || ends,
          desc := if ends = true ∧ (s.lane (laneOf n)).hold.isFetch = true then { (s.port n).desc with state := .aborted }
                  else (s.port n).desc }.accept (.switch t.tb.cycleNumber .done))
    ∧ t.ml = { s.ml with dataPeek :=
        if (s.lane lm).hold.record.any s.switchAborts = true then s.ml.dataPeek.map fun d => { d with status := .aborted }
        else s.ml.dataPeek }
    ∧ t = { s with active := t.active, runtimes := t.runtimes, lanes := t.lanes, ports := t.ports, tb := t.tb,
                   switchPending := t.switchPending, ml := t.ml })
  ∧ ((∀ s : State, (s.live = true → s.switchPending = true → s.exchange = .config → exec .switch s = .next s.applySwitch)
      ∧ (s.exchange ≠ .config → exec .switch s = .next s))
    ∧ ∀ (s : State) (r : RecNo), s.switchAborts r = true ↔
        match s.activeDef r, s.shadowDef r with
        | some a, some b => ¬ (a.owner = b.owner ∧ a.length = b.length ∧ a.base = b.base)
        | none, none => False
        | _, _ => True)

/-! ## Ticks, publication and queues -/

/-- CYCLE_START after the last tick of a cycle (R105, R142, R145, R147): tick count 0, the cycle number one higher, start credit from
next credit, SYNCOUT driven by MASTER, LOCKED and HOLDOVER; then a pending switch is applied in ARMED, RUN, HOLD and STOPPING; then
STOPPING goes to CONFIG, ARMED to RUN in MASTER or LOCKED, HOLD to RUN in LOCKED. SYNCOUT_PULSE_END takes SYNCOUT low in the
eighth tick of its pulse, once that tick has been handed (log entries 8 and 10), and not before. -/
def Obligations.CycleStartDoesItsWorkInOrder : Prop :=
  (∀ s : State, s.live = true → s.tb.running = true → s.tb.tickHanded = true →
      s.active.header.cycleTicks ≤ s.tb.tickCount + 1 → s.BallotOk →
      let drives := decide (s.tb.discipline = .master ∨ s.tb.discipline = .locked ∨ s.tb.discipline = .holdover)
      let u : State := { s with tb := { s.tb with
        tickCount := 0, tickHanded := false, cycleNumber := s.tb.cycleNumber + 1, startCredit := s.tb.nextCredit,
        nextCredit := false, missedMade := false, syncOut := s.tb.syncOut || drives,
        syncOutAge := if drives = true then 0 else s.tb.syncOutAge } }
      let v := if s.switchPending = true
          ∧ (s.exchange = .armed ∨ s.exchange = .run ∨ s.exchange = .hold ∨ s.exchange = .stopping) then u.applySwitch
        else u
      exec .cycleStart s = .next
        (if s.exchange = .stopping then v.movedTo .config
         else if s.exchange = .armed ∧ (s.tb.discipline = .master ∨ s.tb.discipline = .locked) then v.movedTo .run
         else if s.exchange = .hold ∧ s.tb.discipline = .locked then v.movedTo .run
         else v))
    ∧ ∀ s : State,
      (s.live = true → s.tb.syncOut = true → s.tb.tickHanded = true → 7 ≤ s.tb.syncOutAge →
        exec .syncoutPulseEnd s = .next { s with tb := { s.tb with syncOut := false, syncOutAge := 0 } })
      ∧ (s.tb.syncOut = false ∨ s.tb.tickHanded = false ∨ s.tb.syncOutAge < 7 → exec .syncoutPulseEnd s = .next s)

/-- TICK (R39, R40, R43, R46, R47, R142): the tick in progress is handed, or, where it has been, the next one is counted and handed; in
RUN and STOPPING each record the tick selects has its point taken, and every other runtime stays; each queue is handed the entries of
the points in ascending record number (R52, R58); nothing else changes. With time the next tick is counted, its points still to be
taken, so that what happens during it may come before them (R40). No tick is counted before SYNCOUT has returned low after its eighth
(R145). When a tick comes is log entries 8, 9, 10 and 16. -/
def Obligations.TickTakesSelectedPoints : Prop :=
  (∀ s : State, s.live = true → s.passTime.tb =
    if s.tb.running = true ∧ s.tb.tickHanded = true ∧ s.tb.tickCount + 1 < s.active.header.cycleTicks
        ∧ s.missedDue = false ∧ (s.tb.syncOut = true → s.tb.syncOutAge < 7) then
      { s.tb with tickCount := s.tb.tickCount + 1, tickHanded := false,
                  syncOutAge := if s.tb.syncOut = true then s.tb.syncOutAge + 1 else s.tb.syncOutAge }
    else s.tb)
  ∧ ∀ s : State, s.live = true → s.tb.running = true →
    s.tb.tickHanded = false
      ∨ (s.tb.tickCount + 1 < s.active.header.cycleTicks ∧ s.missedDue = false
          ∧ (s.tb.syncOut = true → s.tb.syncOutAge < 7)) → s.RecordsOk →
    let k := if s.tb.tickHanded = true then s.tb.tickCount + 1 else s.tb.tickCount
    let taken (d : RecordDef) : Bool :=
      decide (s.exchange = .run ∨ s.exchange = .stopping) && d.selectedAt k s.tb.cycleNumber
    ∃ t, exec .tick s = .next t
      ∧ t.tb = { s.tb with
          tickCount := k, tickHanded := true,
          syncOutAge := if s.tb.tickHanded = true ∧ s.tb.syncOut = true then s.tb.syncOutAge + 1
            else s.tb.syncOutAge }
      ∧ (∀ r : RecNo, t.runtime r =
          match s.activeDef r, s.runtime r with
          | some d, some rt => some (if taken d = true then pointRuntime d rt s.tb.cycleNumber else rt)
          | _, x => x)
      ∧ (∀ n : Port, t.port n =
          ((List.finRange 128).flatMap fun r =>
            match s.activeDef r, s.runtime r with
            | some d, some rt => if taken d = true then pointEntries r d rt s.tb.cycleNumber n else []
            | _, _ => []).foldl PortState.accept (s.port n))
      ∧ t = { s with tb := t.tb, runtimes := t.runtimes, ports := t.ports }

/-- Rotation (R31, R32): the STG buffer becomes PUB and the buffer that was PUB is RETIRED; the new STG buffer is the one that was PUB
if unpinned, else the other RETIRED one if unpinned, else none and the record is BLOCKED; pins and the rest stay. A publication moves
the version from v to v+1 below 65535 and from 65535 to 1, never to 0 (R44). -/
def Obligations.PublicationRotatesAndNumbers : Prop :=
  (∀ (rt : Runtime) (p g o : Buf), rt.roles[p] = .pub → rt.roles[g] = .stg → rt.roles[o] = .retired →
    (rt.pins[p] = 0 →
      rt.rotate = { rt with roles := ((rt.roles.set p .stg).set g .pub).set o .retired, staging := .empty })
    ∧ (rt.pins[p] ≠ 0 → rt.pins[o] = 0 →
      rt.rotate = { rt with roles := ((rt.roles.set p .retired).set g .pub).set o .stg, staging := .empty })
    ∧ (rt.pins[p] ≠ 0 → rt.pins[o] ≠ 0 →
      rt.rotate = { rt with roles := ((rt.roles.set p .retired).set g .pub).set o .retired, staging := .blocked }))
  ∧ (∀ (rt : Runtime) (cycle : Byte),
    (rt.version.toNat < 65535 → (rt.publish cycle).version.toNat = rt.version.toNat + 1)
    ∧ (rt.version.toNat = 65535 → (rt.publish cycle).version.toNat = 1)
    ∧ (rt.publish cycle).version ≠ 0)

/-- R61, R62, R63: a PUBLISHED entry handed to a queue that holds an unread one for its record coalesces: that entry takes the version
and the cycle number and its count rises by one up to 255, depth, places, lost count and OVERFLOW staying. A device note whose kind
the mask clears is discarded. Any other entry joins at the tail below depth 24; at depth 24 it is discarded, the lost count rising
by one up to 255 and OVERFLOW set. -/
def Obligations.QueuesCoalesceTakeOrLose : Prop :=
  (∀ (p : PortState) (r : RecNo) (v v' : BitVec 16) (c c' : Byte) (k k' : Nat) (front back : List Entry),
    p.queue = front ++ .published r v c k :: back →
    front.countP (Entry.isPublishedOf r) = 0 → back.countP (Entry.isPublishedOf r) = 0 →
    p.accept (.published r v' c' k')
      = { p with queue := front ++ .published r v' c' (min 255 (k + 1)) :: back })
  ∧ (∀ (p : PortState) (e : Entry),
    let masked : Prop := match e with
      | .ballot _ _ _ => p.noteMask.getLsbD 0 = false
      | .switch _ _ => p.noteMask.getLsbD 1 = false
      | .exchange _ _ => p.noteMask.getLsbD 2 = false
      | .timebase _ _ => p.noteMask.getLsbD 3 = false
      | _ => False
    let coalesces : Prop := match e with
      | .published r _ _ _ => ∃ v c k, Entry.published r v c k ∈ p.queue
      | _ => False
    (masked → p.accept e = p)
    ∧ (¬ masked → ¬ coalesces → p.queue.length < 24 → p.accept e = { p with queue := p.queue ++ [e] })
    ∧ (¬ masked → ¬ coalesces → 24 ≤ p.queue.length →
        p.accept e = { p with lost := min 255 (p.lost + 1), overflow := true }))

/-- R66, R68: QUEUE is present while the depth is at least 1, WATERMARK while it is at least the watermark; the sticky causes as they
stand; ATN is low exactly while a cause is present and enabled. -/
def Obligations.AttentionLineFollowsCauses : Prop :=
  ∀ p : PortState,
    (p.causes.getLsbD 0 = true ↔ 1 ≤ p.queue.length) ∧ (p.causes.getLsbD 1 = true ↔ p.watermark ≤ p.queue.length)
      ∧ p.causes.getLsbD 2 = p.overflow ∧ p.causes.getLsbD 3 = p.xfer ∧ p.causes.getLsbD 4 = p.frame
      ∧ (p.atnLow = true ↔ ∃ k : Fin 5, p.causes.getLsbD k.val = true ∧ p.enables.getLsbD k.val = true)

/-! ## The Timebase's discipline -/

/-- R146's phase error: e = t where the tick t lies below cycle ticks minus its floored half, else t minus cycle ticks; and R147's
credit: an accepted pulse outside SEEK credits the start it is nearest to. -/
def Obligations.PhaseErrorAndCredits : Prop :=
  ∀ (tb : Timebase) (ticks : Nat),
    ((tb.tickCount : Int) < ticks - ticks / 2 → tb.phaseError ticks = tb.tickCount)
    ∧ (ticks - ticks / 2 ≤ (tb.tickCount : Int) → tb.phaseError ticks = tb.tickCount - ticks)
    ∧ (∀ e : Int, 0 ≤ e → tb.credit e = { tb with startCredit := true })
    ∧ ∀ e : Int, e < 0 → tb.credit e = { tb with nextCredit := true }

/-- A change of discipline (R156): with the discipline unchanged only the Timebase changes; otherwise the TIMEBASE note is handed to the
four queues, and an entry to SEEK or ACQUIRE moves RUN to HOLD and STOPPING to CONFIG (R103, R104), a pending switch applied first.
A phase step (R155), from a discipline that is not ACQUIRE: the entry to ACQUIRE with acquire run and missed run 0 is reported, then
the cycle restarts at the pulse: tick 0, the next cycle number, start credit yes, next credit no, SYNCOUT not driven, and the cycle
start reaches the Exchange Controller, which applies a pending switch in ARMED and HOLD. -/
def Obligations.DisciplineChangesAreReported : Prop :=
  (∀ (s : State) (tb : Timebase), s.BallotOk →
    (tb.discipline = s.tb.discipline → s.changeDiscipline tb = { s with tb := tb })
    ∧ (tb.discipline ≠ s.tb.discipline →
        let u := { s with tb := tb }.notedAll (.timebase tb.cycleNumber tb.discipline)
        (tb.discipline ≠ .seek → tb.discipline ≠ .acquire → s.changeDiscipline tb = u)
        ∧ (tb.discipline = .seek ∨ tb.discipline = .acquire →
          (s.exchange = .run → s.changeDiscipline tb = u.movedTo .hold)
          ∧ (s.exchange = .stopping → s.switchPending = true → s.changeDiscipline tb = u.applySwitch.movedTo .config)
          ∧ (s.exchange = .stopping → s.switchPending = false → s.changeDiscipline tb = u.movedTo .config)
          ∧ (s.exchange ≠ .run → s.exchange ≠ .stopping → s.changeDiscipline tb = u))))
  ∧ (∀ (s : State) (tb : Timebase), s.BallotOk → tb.discipline = s.tb.discipline → tb.discipline ≠ .acquire →
    let entered : Timebase := { tb with discipline := .acquire, acquireRun := 0, missedRun := 0 }
    let restart (x : State) : State := { x with tb := { x.tb with
      tickCount := 0, tickHanded := false, cycleNumber := x.tb.cycleNumber + 1, startCredit := true, nextCredit := false,
      missedMade := false } }
    (¬ (s.switchPending = true ∧ (s.exchange = .armed ∨ s.exchange = .run ∨ s.exchange = .hold)) →
        s.phaseStep tb = restart (s.changeDiscipline entered))
    ∧ (s.switchPending = true → s.exchange = .armed ∨ s.exchange = .run ∨ s.exchange = .hold →
        s.phaseStep tb = (restart (s.changeDiscipline entered)).applySwitch)
    ∧ (s.exchange = .run → (s.phaseStep tb).exchange = .hold)
    ∧ (s.exchange = .stopping → (s.phaseStep tb).exchange = .config))

/-- SYNC_PULSE (R144, R147, R149 to R154): in FOLLOWER mode with the Timebase counting a pulse outside SYNC_WIN only raises the spurious
count; an accepted one credits its start, corrects the trim and is judged by the discipline it finds; in MASTER mode it is not
taken. -/
def Obligations.PulsesAreJudgedByDiscipline : Prop :=
  ∀ s : State, s.live = true → s.tb.running = true →
    (s.active.header.mode = .master → exec .syncPulse s = .next s)
    ∧ (s.active.header.mode = .follower →
      let h := s.active.header
      let e := s.tb.phaseError h.cycleTicks
      let near := s.tb.credit e
      let trim (gain : Int) : Int := max (-1000) (min 1000 (s.tb.trim - gain * e))
      (s.tb.discipline = .seek →
        exec .syncPulse s = .next (s.phaseStep { s.tb with lockRun := 0, holdoverCount := 0 }))
      ∧ (s.tb.discipline ≠ .seek → s.tb.discipline ≠ .master → h.syncWin < e.natAbs →
        exec .syncPulse s = .next { s with tb := { s.tb with spurious := min 65535 (s.tb.spurious + 1) } })
      ∧ (e.natAbs ≤ h.syncWin →
        (s.tb.discipline = .acquire →
          (e.natAbs ≤ h.acqTol → s.tb.acquireRun + 1 < h.nAcq → exec .syncPulse s = .next (s.changeDiscipline
            { near with trim := trim 8, missedRun := 0, acquireRun := s.tb.acquireRun + 1 }))
          ∧ (e.natAbs ≤ h.acqTol → h.nAcq ≤ s.tb.acquireRun + 1 → exec .syncPulse s = .next (s.changeDiscipline
            { near with trim := trim 8, missedRun := 0, acquireRun := s.tb.acquireRun + 1, discipline := .track,
                        lockRun := 0 }))
          ∧ (h.acqTol < e.natAbs → exec .syncPulse s = .next (s.changeDiscipline
            { near with trim := trim 8, missedRun := 0, acquireRun := 0 })))
        ∧ (s.tb.discipline = .track →
          (e.natAbs ≤ h.lockTol → s.tb.lockRun + 1 < h.nLock → exec .syncPulse s = .next (s.changeDiscipline
            { near with trim := trim 1, lockRun := s.tb.lockRun + 1 }))
          ∧ (e.natAbs ≤ h.lockTol → h.nLock ≤ s.tb.lockRun + 1 → exec .syncPulse s = .next (s.changeDiscipline
            { near with trim := trim 1, lockRun := s.tb.lockRun + 1, discipline := .locked }))
          ∧ (h.lockTol < e.natAbs → e.natAbs ≤ h.acqTol → exec .syncPulse s = .next (s.changeDiscipline
            { near with trim := trim 1, lockRun := 0 }))
          ∧ (h.lockTol < e.natAbs → h.acqTol < e.natAbs →
            exec .syncPulse s = .next (s.phaseStep { near with trim := trim 1 })))
        ∧ (s.tb.discipline = .locked →
          (e.natAbs ≤ h.lockTol → exec .syncPulse s = .next (s.changeDiscipline { near with trim := trim 1 }))
          ∧ (h.lockTol < e.natAbs → e.natAbs ≤ h.acqTol → exec .syncPulse s = .next (s.changeDiscipline
            { near with trim := trim 1, discipline := .track, lockRun := 0 }))
          ∧ (h.lockTol < e.natAbs → h.acqTol < e.natAbs →
            exec .syncPulse s = .next (s.phaseStep { near with trim := trim 1 })))
        ∧ (s.tb.discipline = .holdover →
          (e.natAbs ≤ h.acqTol → exec .syncPulse s = .next (s.changeDiscipline
            { near with discipline := .track, lockRun := 0 }))
          ∧ (h.acqTol < e.natAbs → exec .syncPulse s = .next (s.phaseStep near)))))

/-- MISSED_PULSE_EVENT at tick SYNC_WIN with start credit no (R148, R151 to R154): ACQUIRE counts to three and then enters SEEK; TRACK
and LOCKED enter HOLDOVER with count 1; HOLDOVER counts to its limit and then enters SEEK; an entry to SEEK clears trim, counters and
credits. Made at most once a cycle (log entry 9). `missedDue`, for which the tick waits, is exactly those conditions. -/
def Obligations.MissedPulsesMoveTheDiscipline : Prop :=
  (∀ s : State, s.missedDue = true ↔
    s.live = true ∧ s.tb.running = true ∧ s.tb.tickCount = s.active.header.syncWin ∧ s.tb.startCredit = false
      ∧ s.tb.missedMade = false
      ∧ (s.tb.discipline = .acquire ∨ s.tb.discipline = .track ∨ s.tb.discipline = .locked ∨ s.tb.discipline = .holdover))
  ∧ ∀ s : State, s.live = true → s.tb.running = true → s.tb.tickCount = s.active.header.syncWin →
    s.tb.startCredit = false → s.tb.missedMade = false →
    let seek : Timebase := { s.tb with
      discipline := .seek, trim := 0, acquireRun := 0, lockRun := 0, missedRun := 0, holdoverCount := 0,
      startCredit := false, nextCredit := false, missedMade := true }
    (s.tb.discipline = .acquire → s.tb.missedRun + 1 < 3 →
      exec .missedPulseEvent s = .next { s with tb := { s.tb with missedRun := s.tb.missedRun + 1, missedMade := true } })
    ∧ (s.tb.discipline = .acquire → 3 ≤ s.tb.missedRun + 1 →
      exec .missedPulseEvent s = .next (s.changeDiscipline seek))
    ∧ (s.tb.discipline = .track ∨ s.tb.discipline = .locked →
      exec .missedPulseEvent s = .next
        (s.changeDiscipline { s.tb with discipline := .holdover, holdoverCount := 1, missedMade := true }))
    ∧ (s.tb.discipline = .holdover → s.tb.holdoverCount + 1 < s.active.header.holdoverLimit →
      exec .missedPulseEvent s = .next
        { s with tb := { s.tb with holdoverCount := s.tb.holdoverCount + 1, missedMade := true } })
    ∧ (s.tb.discipline = .holdover → s.active.header.holdoverLimit ≤ s.tb.holdoverCount + 1 →
      exec .missedPulseEvent s = .next (s.changeDiscipline seek))

/-! ## Maintenance line and option store -/

/-- BREAK, COLLISION and FRAMING_ERROR (R172, R173): reception, echo or response is abandoned; a break leaves the parser IDLE and is
answered by the part's own break, a collision or a framing error leaves MUTED; break and collision discard the kept code bytes and a
DATA PEEK's data, and leave an OPTION WRITE unanswered (R176; log entries 12 to 14). A break of the part's own is no ground for a
collision. Code entry in CLOSED access (R174): a byte is kept, counted and echoed; the eighth wins OPEN where the store was
unprogrammed at power-on or its code bytes match in order, and LIMITED otherwise. With time the line goes on (R171, R174; log entries
12 and 16): an echo ends in IDLE or in the response or break that follows it, and a break of the part's own ends in IDLE. -/
def Obligations.LineEventsAndCodeEntry : Prop :=
  (∀ s : State, s.live = true →
    exec .lineBreak s = .next { s with ml := { s.ml with
      line := .responding, parser := .idle, kept := [], sent := .ownBreak, dataPeek := none, awaitAck := false } }
    ∧ (s.ml.line = .echoing ∨ s.ml.parser = .answering
          ∨ (s.ml.line = .responding ∧ s.ml.sent ≠ .ownBreak ∧ ∀ b, s.ml.sent ≠ .echoThenBreak b) →
      exec .collision s = .next { s with ml := { s.ml with
        line := .idle, parser := .muted, kept := [], sent := .nothing, dataPeek := none, awaitAck := false } })
    ∧ (s.ml.Free → s.ml.parser ≠ .answering →
      exec .framingError s = .next { s with ml := { s.ml with line := .idle, parser := .muted } }))
  ∧ (∀ (s : State) (b : Byte), s.live = true → s.ml.Free → s.ml.access = .closed → s.ml.parser = .idle →
    (s.ml.kept.length < 7 → exec (.codeByte b) s = .next { s with ml := { s.ml with
      kept := s.ml.kept ++ [b], line := .echoing, sent := .echo b } })
    ∧ (s.ml.kept.length = 7 → exec (.codeByte b) s = .next { s with ml := { s.ml with
      access := if s.ml.storedCode = none ∨ ∃ c, s.ml.storedCode = some c ∧ c.toList = s.ml.kept ++ [b] then .opened
        else .limited,
      kept := [], line := .echoing, sent := .echoThenBreak b } }))
  ∧ ∀ s : State, s.live = true → s.passTime.ml = { s.ml with line :=
      match s.ml.line, s.ml.sent with
      | .echoing, .echo _ | .echoing, .nothing => .idle
      | .echoing, _ => .responding
      | .responding, .ownBreak | .responding, .echoThenBreak _ => .idle
      | x, _ => x }

/-- The maintenance commands that read, and an unknown code (R176, R177, R188): each takes its values at once, changes nothing but the
line, and its last byte is echoed before the response. QUEUE PEEK with LIMITED access is DENIED; where two refusals apply the order is
the model's (log entry 15). -/
def Obligations.MaintenanceReadsAnswer : Prop :=
  ∀ s : State, s.live = true → s.ml.Free → s.ml.access ≠ .closed →
    let answer (last : Byte) (bytes : List Byte) : State := { s with ml := { s.ml with
      parser := .answering, line := .echoing, sent := .echoThenResponse last (bytes ++ [crc8 bytes]) } }
    (s.ml.parser = .idle →
      exec .statusPeek s = .next (answer 0x01
        [byteOf (16 * s.exchange.code + s.tb.discipline.code),
         (BitVec.ofInt 16 s.tb.trim).extractLsb' 8 8, (BitVec.ofInt 16 s.tb.trim).extractLsb' 0 8, s.tb.cycleNumber,
         byteOf (s.ml.access.code + (if s.ballot.current = none then 0 else 4)
           + 16 * ((s.ballot.current.map fun b => b.item.code).getD 0) + (if s.switchPending = true then 128 else 0)),
         (match (s.lane lm).hold with | .idle => 0 | .waiting _ => 1 | .staging _ _ => 2 | .fetching _ _ _ => 6),
         (match (s.lane lm).hold with
           | .idle => 0 | .waiting r => byteOf r.val | .staging r _ => byteOf r.val | .fetching r _ _ => byteOf r.val),
         byteOf (s.lane lm).result.code])
      ∧ exec .optionRead s = .next (answer 0x0C
          (if s.opt.state = .programmed then
            [1, 0, 0, 0, 0, 0, 0, 0, 0, s.opt.image.lineRate, s.opt.image.resetMode,
             s.opt.image.resetCycleTicks.extractLsb' 8 8, s.opt.image.resetCycleTicks.extractLsb' 0 8]
           else List.replicate 13 0))
      ∧ ∀ code : Byte, code ∉ ([0x01, 0x02, 0x03, 0x04, 0x0A, 0x0B, 0x0C] : List Byte) →
          exec (.unknownCommand code) s = .next (answer code [0x5A, 0x0B]))
    ∧ (∀ r : Byte, s.ml.parser = .operands 0x02 [] →
      (128 ≤ r.toNat → exec (.defPeek r) s = .next (answer r [0x06]))
      ∧ (r.toNat < 128 → s.exchange = .init → exec (.defPeek r) s = .next (answer r [0x02]))
      ∧ ∀ rec : RecNo, r.toNat = rec.val → s.exchange ≠ .init →
          exec (.defPeek r) s
            = .next (answer r (0x00 :: (defBytes (s.activeDef rec) ++ runtimeBytes (s.runtime rec)))))
    ∧ ∀ p i : Byte, s.ml.parser = .operands 0x04 [p] →
      (s.ml.access = .limited → exec (.queuePeek p i) s = .next (answer i [0x01]))
      ∧ (s.ml.access = .opened → 4 ≤ p.toNat ∨ 24 ≤ i.toNat → exec (.queuePeek p i) s = .next (answer i [0x06]))
      ∧ ∀ q : Port, s.ml.access = .opened → p.toNat = q.val → i.toNat < 24 →
          exec (.queuePeek p i) s = .next (answer i (0x00 ::
            (match (s.port q).queue[i.toNat]? with
              | some e => entryBytes e
              | none => [0, 0, 0, 0, s.tb.cycleNumber, 0, 0, 0])))

/-- DATA PEEK at its operand (R90, R178): DENIED with LIMITED access; LM's refusals NOT_READY, BUSY, UNDEFINED and NO_DATA, in that
order, become the status; a taken fetch pins the PUB buffer, makes LM ACTIVE and leaves the parser ANSWERING. The operand is echoed
either way, and a refusal's response follows the echo. -/
def Obligations.DataPeekFetchesOrIsRefused : Prop :=
  ∀ (s : State) (x : Byte), s.live = true → s.ml.Free → s.ml.parser = .operands 0x03 [] →
    let answer (st : Byte) : State := { s with ml := { s.ml with
      parser := .answering, line := .echoing, sent := .echoThenResponse x [st, crc8 [st]] } }
    (s.ml.access = .limited → exec (.dataPeek x) s = .next (answer 0x01))
    ∧ (s.ml.access = .opened →
      (s.exchange = .init → exec (.dataPeek x) s = .next (answer 0x02))
      ∧ (s.exchange ≠ .init → (s.lane lm).hold ≠ .idle → exec (.dataPeek x) s = .next (answer 0x03))
      ∧ (s.exchange ≠ .init → (s.lane lm).hold = .idle → (∀ r : RecNo, x.toNat = r.val → s.activeDef r = none) →
          exec (.dataPeek x) s = .next (answer 0x04))
      ∧ ∀ (r : RecNo) (d : RecordDef) (rt : Runtime) (b : Buf), s.exchange ≠ .init → (s.lane lm).hold = .idle →
          x.toNat = r.val → s.activeDef r = some d → s.runtime r = some rt →
          (rt.version = 0 → exec (.dataPeek x) s = .next (answer 0x05))
          ∧ (rt.version ≠ 0 → rt.BuffersOk → rt.roles[b] = .pub →
            exec (.dataPeek x) s = .next { s with
              runtimes := s.runtimes.set r (some { rt with pins := rt.pins.set b (rt.pins[b] + 1) }),
              lanes := s.lanes.set lm ⟨.fetching r 0 b, (s.lane lm).result⟩,
              ml := { s.ml with
                parser := .answering, line := .echoing, sent := .echo x,
                dataPeek := some { length := d.length, version := rt.version, health := rt.health,
                                   lastCycle := rt.lastCycle, status := .copying } } }))

/-- The DATA PEEK response (R178), once LM has ended: status OK, the peek descriptor and the peek buffer's words, or ABORTED; while
LM copies nothing is sent. The last response byte returns line and parser to IDLE (R176). A code with operands, and an operand that
is not the last, is echoed and moves the parser to OPERANDS (R176). A byte that completes a command is that command, by R188's codes
(log entry 28). -/
def Obligations.ResponsesAndOperandsMoveTheParser : Prop :=
  (∀ s : State, s.live = true →
    (∀ d : DataPeek, s.ml.parser = .answering → s.ml.Free → s.ml.dataPeek = some d →
      (d.status = .copying → exec .dataPeekResponse s = .next s)
      ∧ (d.status = .aborted → exec .dataPeekResponse s = .next { s with ml := { s.ml with
          line := .responding, sent := .response [0x07, crc8 [0x07]] } })
      ∧ (d.status = .completed → exec .dataPeekResponse s = .next { s with ml := { s.ml with
          line := .responding,
          sent := .response (withCheck
            ([0x00, byteOf d.length, d.version.extractLsb' 8 8, d.version.extractLsb' 0 8, byteOf d.health.code,
              d.lastCycle] ++ (s.ml.peekBuf.toList.take d.length).flatMap be32)) } }))
    ∧ (s.ml.line ≠ .idle → s.ml.parser = .answering →
        (∃ bytes, s.ml.sent = .response bytes ∨ ∃ b, s.ml.sent = .echoThenResponse b bytes) →
      exec .lastResponseByteSent s = .next { s with ml := { s.ml with line := .idle, parser := .idle, dataPeek := none } })
    ∧ ∀ b : Byte, s.ml.Free → s.ml.access ≠ .closed →
      (s.ml.parser = .idle → b = 0x02 ∨ b = 0x03 ∨ b = 0x04 ∨ b = 0x0B →
        exec (.mlineCommandByte b) s = .next { s with ml := { s.ml with
          parser := .operands b [], line := .echoing, sent := .echo b } })
      ∧ ∀ received : List Byte,
        (s.ml.parser = .operands 0x04 received ∧ received = [])
          ∨ (s.ml.parser = .operands 0x0B received ∧ received.length < 13) →
        ∃ code : Byte, s.ml.parser = .operands code received
          ∧ exec (.mlineCommandByte b) s = .next { s with ml := { s.ml with
              parser := .operands code (received ++ [b]), line := .echoing, sent := .echo b } })
  ∧ ∀ (s : State) (b : Byte),
    (s.ml.parser = .idle →
      (b = 0x01 → exec (.mlineCommandByte b) s = exec .statusPeek s)
      ∧ (b = 0x0A → exec (.mlineCommandByte b) s = exec .freezeCommand s)
      ∧ (b = 0x0C → exec (.mlineCommandByte b) s = exec .optionRead s)
      ∧ (b ∉ ([0x01, 0x02, 0x03, 0x04, 0x0A, 0x0B, 0x0C] : List Byte) →
          exec (.mlineCommandByte b) s = exec (.unknownCommand b) s))
    ∧ (s.ml.parser = .operands 0x02 [] → exec (.mlineCommandByte b) s = exec (.defPeek b) s)
    ∧ (s.ml.parser = .operands 0x03 [] → exec (.mlineCommandByte b) s = exec (.dataPeek b) s)
    ∧ (∀ p : Byte, s.ml.parser = .operands 0x04 [p] → exec (.mlineCommandByte b) s = exec (.queuePeek p b) s)
    ∧ ∀ image : Vector Byte 13, s.ml.parser = .operands 0x0B image.toList →
        exec (.mlineCommandByte b) s = exec (.optionWrite image b) s

/-- OPTION WRITE's checks in R179's order, its programming (R183: the image is written as received, the flag as programmed), and its
end: the store is PROGRAMMED, and the ACK is sent if the command is still being answered. The check byte is echoed either way, and a
refusal's answer follows the echo. -/
def Obligations.OptionWriteProgramsOnce : Prop :=
  ∀ s : State,
    (∀ (image : Vector Byte 13) (check : Byte), s.live = true → s.ml.Free → s.ml.access ≠ .closed →
      s.ml.parser = .operands 0x0B image.toList →
      let nak (st : Byte) : State := { s with ml := { s.ml with
        parser := .answering, line := .echoing, sent := .echoThenResponse check [0x5A, st, crc8 [0x5A, st]] } }
      (s.ml.access = .limited → exec (.optionWrite image check) s = .next (nak 0x01))
      ∧ (s.ml.access = .opened →
        (check ≠ crc8 image.toList → exec (.optionWrite image check) s = .next (nak 0x0A))
        ∧ (check = crc8 image.toList → s.exchange ≠ .config → exec (.optionWrite image check) s = .next (nak 0x08))
        ∧ (check = crc8 image.toList → s.exchange = .config → s.opt.state ≠ .unprogrammed →
            exec (.optionWrite image check) s = .next (nak 0x09))
        ∧ (check = crc8 image.toList → s.exchange = .config → s.opt.state = .unprogrammed →
            exec (.optionWrite image check) s = .next { s with
              opt := ⟨.programming,
                { accessCode := #v[image[1], image[2], image[3], image[4], image[5], image[6], image[7], image[8]],
                  lineRate := image[9], resetMode := image[10],
                  resetCycleTicks := BitVec.ofNat 16 (256 * image[11].toNat + image[12].toNat) }⟩,
              ml := { s.ml with parser := .answering, line := .echoing, sent := .echo check, awaitAck := true } })))
    ∧ (s.powered = true → s.opt.state = .programming →
      (s.ml.awaitAck = true → s.ml.parser = .answering →
        exec .programmingComplete s = .next { s with
          opt := { s.opt with state := .programmed },
          ml := { s.ml with awaitAck := false, line := .responding, sent := .response [0xA5, 0x00, crc8 [0xA5, 0x00]] } })
      ∧ (s.ml.awaitAck = false ∨ s.ml.parser ≠ .answering →
        exec .programmingComplete s = .next { s with opt := { s.opt with state := .programmed } }))

/-- Every step keeps the kept code bytes fewer than eight (R174). Every step but POWER_ON keeps the member set (R180), the access code
read at power-on (R182) and the line rate (R171), leaves OPEN and LIMITED access as they are (R174), and lets a programming run: only
PROGRAMMING_COMPLETE ends it (R183). PROGRAMMED and its image are kept by every step, POWER_ON among them (R182, R183). -/
def Obligations.EveryStepKeepsMembersAccessAndOptions : Prop :=
  ∀ s t : State, step s = .next t →
    (s.ml.kept.length < 8 → t.ml.kept.length < 8)
    ∧ (s.opt.state = .programmed → t.opt = s.opt)
    ∧ ((∀ memb, s.pending.head? ≠ some (.powerOn memb)) →
        t.members = s.members ∧ t.ml.storedCode = s.ml.storedCode ∧ t.ml.rate = s.ml.rate
          ∧ (s.ml.access ≠ .closed → t.ml.access = s.ml.access)
          ∧ (s.opt.state = .programming → s.pending.head? ≠ some .programmingComplete → t.opt = s.opt))

/-! ## Laws that every step keeps -/

/-- The queue law of R59: every step keeps at most 24 entries, at most one PUBLISHED entry for any one record and a lost count of at most
255. The Record Store keeps inside its 8192 words (R19) and in the canonical form of a list of cells, addresses rising and no zero
word listed, which is the model's choice (log entry 7). -/
def Obligations.EveryStepKeepsQueuesAndStore : Prop :=
  (∀ s t : State, step s = .next t → s.QueuesOk → t.QueuesOk)
  ∧ (∀ s t : State, step s = .next t → s.StoreOk → s.TableOk → t.StoreOk)

/-- The tables stay in range (R3, R5), every defined active record and no other has a runtime (R7), and versions, health and miss
counts keep R44's and R47's laws. -/
def Obligations.EveryStepKeepsTheRecordLaws : Prop := ∀ s t : State, step s = .next t → s.RecordsOk → t.RecordsOk

/-- The laws of buffers, staging states, stage waiting and pins (R22 to R25, R32), of the lanes that stand for them, with a word index
below the record's length (R80), at which the transfer ends (R85, R89, R90), and of the fetch descriptors, IN_PROGRESS exactly while the port's lane holds an ACTIVE FETCH
(R77, R79). -/
def Obligations.EveryStepKeepsTheTransferLaws : Prop :=
  ∀ s t : State, step s = .next t → s.TransfersOk → s.RecordsOk → s.BallotOk → t.TransfersOk

/-- The active image stays validated (R1), a locked shadow stays the one validated (R2), the open ballot's item stays allowed (R114,
R122), the elapsed time within the limit (R121), and the flag clear outside ARMED, RUN, HOLD and STOPPING (R129). -/
def Obligations.EveryStepKeepsTheControlLaws : Prop := ∀ s t : State, step s = .next t → s.ControlOk → t.ControlOk

/-- The tick count stays below the cycle ticks (R142), the trim and the spurious count in range (R141, R147), SYNCOUT high
for at most 8 ticks (R145), the run counters in their ranges (09 section 9.4); in MASTER mode the trim and the run counters are 0
(R144). The discipline agrees with the mode (R144); while publications are taken it is MASTER, TRACK, LOCKED or HOLDOVER (R40). -/
def Obligations.EveryStepKeepsTheTimebaseLaws : Prop :=
  ∀ s t : State, step s = .next t → s.TimebaseOk → s.ModeOk → s.AlignedWhilePublishing → s.ControlOk → s.TableOk →
    t.TimebaseOk ∧ t.ModeOk ∧ t.AlignedWhilePublishing

/-- Every law holds in the state right after power-on (some of whose values are the model's choice, log entry 4). -/
def Obligations.LawsHoldAtReset : Prop :=
  State.reset.QueuesOk ∧ State.reset.StoreOk ∧ State.reset.RecordsOk ∧ State.reset.TransfersOk ∧ State.reset.ControlOk
    ∧ State.reset.TimebaseOk ∧ State.reset.ModeOk ∧ State.reset.AlignedWhilePublishing
end

