-- ==== Sys2Proof/Laws/State.lean ====
section
/-! SUPPORT. What each named update of the state leaves in every field, true by unfolding the record update: one lemma for each
field and update, and for each reader of the state. -/

set_option Elab.async false

namespace Sys2Proof.Machine

variable (s : State)

/-! ## modPort -/

@[simp] theorem modPort_pending (n : Port) (f : PortState → PortState) : (s.modPort n f).pending = s.pending := rfl
@[simp] theorem modPort_powered (n : Port) (f : PortState → PortState) : (s.modPort n f).powered = s.powered := rfl
@[simp] theorem modPort_resetLow (n : Port) (f : PortState → PortState) : (s.modPort n f).resetLow = s.resetLow := rfl
@[simp] theorem modPort_members (n : Port) (f : PortState → PortState) : (s.modPort n f).members = s.members := rfl
@[simp] theorem modPort_ports (n : Port) (f : PortState → PortState) : (s.modPort n f).ports = s.ports.set n (f s.ports[n]) := rfl
@[simp] theorem modPort_lanes (n : Port) (f : PortState → PortState) : (s.modPort n f).lanes = s.lanes := rfl
@[simp] theorem modPort_arbiter (n : Port) (f : PortState → PortState) : (s.modPort n f).arbiter = s.arbiter := rfl
@[simp] theorem modPort_active (n : Port) (f : PortState → PortState) : (s.modPort n f).active = s.active := rfl
@[simp] theorem modPort_shadow (n : Port) (f : PortState → PortState) : (s.modPort n f).shadow = s.shadow := rfl
@[simp] theorem modPort_runtimes (n : Port) (f : PortState → PortState) : (s.modPort n f).runtimes = s.runtimes := rfl
@[simp] theorem modPort_store (n : Port) (f : PortState → PortState) : (s.modPort n f).store = s.store := rfl
@[simp] theorem modPort_clearing (n : Port) (f : PortState → PortState) : (s.modPort n f).clearing = s.clearing := rfl
@[simp] theorem modPort_exchange (n : Port) (f : PortState → PortState) : (s.modPort n f).exchange = s.exchange := rfl
@[simp] theorem modPort_ballot (n : Port) (f : PortState → PortState) : (s.modPort n f).ballot = s.ballot := rfl
@[simp] theorem modPort_switchPending (n : Port) (f : PortState → PortState) : (s.modPort n f).switchPending = s.switchPending := rfl
@[simp] theorem modPort_tb (n : Port) (f : PortState → PortState) : (s.modPort n f).tb = s.tb := rfl
@[simp] theorem modPort_ml (n : Port) (f : PortState → PortState) : (s.modPort n f).ml = s.ml := rfl
@[simp] theorem modPort_opt (n : Port) (f : PortState → PortState) : (s.modPort n f).opt = s.opt := rfl
@[simp] theorem modPort_lane (n : Port) (f : PortState → PortState) (k : LaneNo) : (s.modPort n f).lane k = s.lane k := rfl
@[simp] theorem modPort_runtime (n : Port) (f : PortState → PortState) (q : RecNo) : (s.modPort n f).runtime q = s.runtime q := rfl
@[simp] theorem modPort_activeDef (n : Port) (f : PortState → PortState) (q : RecNo) : (s.modPort n f).activeDef q = s.activeDef q := rfl
@[simp] theorem modPort_shadowDef (n : Port) (f : PortState → PortState) (q : RecNo) : (s.modPort n f).shadowDef q = s.shadowDef q := rfl
@[simp] theorem modPort_isMember (n : Port) (f : PortState → PortState) (m : Port) : (s.modPort n f).isMember m = s.isMember m := rfl
@[simp] theorem modPort_memberCount (n : Port) (f : PortState → PortState) : (s.modPort n f).memberCount = s.memberCount := rfl
@[simp] theorem modPort_live (n : Port) (f : PortState → PortState) : (s.modPort n f).live = s.live := rfl
@[simp] theorem modPort_openItem (n : Port) (f : PortState → PortState) : (s.modPort n f).openItem = s.openItem := rfl
@[simp] theorem modPort_shadowLocked (n : Port) (f : PortState → PortState) : (s.modPort n f).shadowLocked = s.shadowLocked := rfl

/-! ## setLane -/

@[simp] theorem setLane_pending (l : LaneNo) (x : Lane) : (s.setLane l x).pending = s.pending := rfl
@[simp] theorem setLane_powered (l : LaneNo) (x : Lane) : (s.setLane l x).powered = s.powered := rfl
@[simp] theorem setLane_resetLow (l : LaneNo) (x : Lane) : (s.setLane l x).resetLow = s.resetLow := rfl
@[simp] theorem setLane_members (l : LaneNo) (x : Lane) : (s.setLane l x).members = s.members := rfl
@[simp] theorem setLane_ports (l : LaneNo) (x : Lane) : (s.setLane l x).ports = s.ports := rfl
@[simp] theorem setLane_lanes (l : LaneNo) (x : Lane) : (s.setLane l x).lanes = s.lanes.set l x := rfl
@[simp] theorem setLane_arbiter (l : LaneNo) (x : Lane) : (s.setLane l x).arbiter = s.arbiter := rfl
@[simp] theorem setLane_active (l : LaneNo) (x : Lane) : (s.setLane l x).active = s.active := rfl
@[simp] theorem setLane_shadow (l : LaneNo) (x : Lane) : (s.setLane l x).shadow = s.shadow := rfl
@[simp] theorem setLane_runtimes (l : LaneNo) (x : Lane) : (s.setLane l x).runtimes = s.runtimes := rfl
@[simp] theorem setLane_store (l : LaneNo) (x : Lane) : (s.setLane l x).store = s.store := rfl
@[simp] theorem setLane_clearing (l : LaneNo) (x : Lane) : (s.setLane l x).clearing = s.clearing := rfl
@[simp] theorem setLane_exchange (l : LaneNo) (x : Lane) : (s.setLane l x).exchange = s.exchange := rfl
@[simp] theorem setLane_ballot (l : LaneNo) (x : Lane) : (s.setLane l x).ballot = s.ballot := rfl
@[simp] theorem setLane_switchPending (l : LaneNo) (x : Lane) : (s.setLane l x).switchPending = s.switchPending := rfl
@[simp] theorem setLane_tb (l : LaneNo) (x : Lane) : (s.setLane l x).tb = s.tb := rfl
@[simp] theorem setLane_ml (l : LaneNo) (x : Lane) : (s.setLane l x).ml = s.ml := rfl
@[simp] theorem setLane_opt (l : LaneNo) (x : Lane) : (s.setLane l x).opt = s.opt := rfl
@[simp] theorem setLane_port (l : LaneNo) (x : Lane) (m : Port) : (s.setLane l x).port m = s.port m := rfl
@[simp] theorem setLane_runtime (l : LaneNo) (x : Lane) (q : RecNo) : (s.setLane l x).runtime q = s.runtime q := rfl
@[simp] theorem setLane_activeDef (l : LaneNo) (x : Lane) (q : RecNo) : (s.setLane l x).activeDef q = s.activeDef q := rfl
@[simp] theorem setLane_shadowDef (l : LaneNo) (x : Lane) (q : RecNo) : (s.setLane l x).shadowDef q = s.shadowDef q := rfl
@[simp] theorem setLane_isMember (l : LaneNo) (x : Lane) (m : Port) : (s.setLane l x).isMember m = s.isMember m := rfl
@[simp] theorem setLane_memberCount (l : LaneNo) (x : Lane) : (s.setLane l x).memberCount = s.memberCount := rfl
@[simp] theorem setLane_live (l : LaneNo) (x : Lane) : (s.setLane l x).live = s.live := rfl
@[simp] theorem setLane_openItem (l : LaneNo) (x : Lane) : (s.setLane l x).openItem = s.openItem := rfl
@[simp] theorem setLane_shadowLocked (l : LaneNo) (x : Lane) : (s.setLane l x).shadowLocked = s.shadowLocked := rfl

/-! ## setRuntime -/

@[simp] theorem setRuntime_pending (r : RecNo) (rt : Runtime) : (s.setRuntime r rt).pending = s.pending := rfl
@[simp] theorem setRuntime_powered (r : RecNo) (rt : Runtime) : (s.setRuntime r rt).powered = s.powered := rfl
@[simp] theorem setRuntime_resetLow (r : RecNo) (rt : Runtime) : (s.setRuntime r rt).resetLow = s.resetLow := rfl
@[simp] theorem setRuntime_members (r : RecNo) (rt : Runtime) : (s.setRuntime r rt).members = s.members := rfl
@[simp] theorem setRuntime_ports (r : RecNo) (rt : Runtime) : (s.setRuntime r rt).ports = s.ports := rfl
@[simp] theorem setRuntime_lanes (r : RecNo) (rt : Runtime) : (s.setRuntime r rt).lanes = s.lanes := rfl
@[simp] theorem setRuntime_arbiter (r : RecNo) (rt : Runtime) : (s.setRuntime r rt).arbiter = s.arbiter := rfl
@[simp] theorem setRuntime_active (r : RecNo) (rt : Runtime) : (s.setRuntime r rt).active = s.active := rfl
@[simp] theorem setRuntime_shadow (r : RecNo) (rt : Runtime) : (s.setRuntime r rt).shadow = s.shadow := rfl
@[simp] theorem setRuntime_runtimes (r : RecNo) (rt : Runtime) : (s.setRuntime r rt).runtimes = s.runtimes.set r (some rt) := rfl
@[simp] theorem setRuntime_store (r : RecNo) (rt : Runtime) : (s.setRuntime r rt).store = s.store := rfl
@[simp] theorem setRuntime_clearing (r : RecNo) (rt : Runtime) : (s.setRuntime r rt).clearing = s.clearing := rfl
@[simp] theorem setRuntime_exchange (r : RecNo) (rt : Runtime) : (s.setRuntime r rt).exchange = s.exchange := rfl
@[simp] theorem setRuntime_ballot (r : RecNo) (rt : Runtime) : (s.setRuntime r rt).ballot = s.ballot := rfl
@[simp] theorem setRuntime_switchPending (r : RecNo) (rt : Runtime) : (s.setRuntime r rt).switchPending = s.switchPending := rfl
@[simp] theorem setRuntime_tb (r : RecNo) (rt : Runtime) : (s.setRuntime r rt).tb = s.tb := rfl
@[simp] theorem setRuntime_ml (r : RecNo) (rt : Runtime) : (s.setRuntime r rt).ml = s.ml := rfl
@[simp] theorem setRuntime_opt (r : RecNo) (rt : Runtime) : (s.setRuntime r rt).opt = s.opt := rfl
@[simp] theorem setRuntime_port (r : RecNo) (rt : Runtime) (m : Port) : (s.setRuntime r rt).port m = s.port m := rfl
@[simp] theorem setRuntime_lane (r : RecNo) (rt : Runtime) (k : LaneNo) : (s.setRuntime r rt).lane k = s.lane k := rfl
@[simp] theorem setRuntime_activeDef (r : RecNo) (rt : Runtime) (q : RecNo) : (s.setRuntime r rt).activeDef q = s.activeDef q := rfl
@[simp] theorem setRuntime_shadowDef (r : RecNo) (rt : Runtime) (q : RecNo) : (s.setRuntime r rt).shadowDef q = s.shadowDef q := rfl
@[simp] theorem setRuntime_isMember (r : RecNo) (rt : Runtime) (m : Port) : (s.setRuntime r rt).isMember m = s.isMember m := rfl
@[simp] theorem setRuntime_memberCount (r : RecNo) (rt : Runtime) : (s.setRuntime r rt).memberCount = s.memberCount := rfl
@[simp] theorem setRuntime_live (r : RecNo) (rt : Runtime) : (s.setRuntime r rt).live = s.live := rfl
@[simp] theorem setRuntime_openItem (r : RecNo) (rt : Runtime) : (s.setRuntime r rt).openItem = s.openItem := rfl
@[simp] theorem setRuntime_shadowLocked (r : RecNo) (rt : Runtime) : (s.setRuntime r rt).shadowLocked = s.shadowLocked := rfl

/-! ## setTb -/

@[simp] theorem setTb_pending (tb : Timebase) : (s.setTb tb).pending = s.pending := rfl
@[simp] theorem setTb_powered (tb : Timebase) : (s.setTb tb).powered = s.powered := rfl
@[simp] theorem setTb_resetLow (tb : Timebase) : (s.setTb tb).resetLow = s.resetLow := rfl
@[simp] theorem setTb_members (tb : Timebase) : (s.setTb tb).members = s.members := rfl
@[simp] theorem setTb_ports (tb : Timebase) : (s.setTb tb).ports = s.ports := rfl
@[simp] theorem setTb_lanes (tb : Timebase) : (s.setTb tb).lanes = s.lanes := rfl
@[simp] theorem setTb_arbiter (tb : Timebase) : (s.setTb tb).arbiter = s.arbiter := rfl
@[simp] theorem setTb_active (tb : Timebase) : (s.setTb tb).active = s.active := rfl
@[simp] theorem setTb_shadow (tb : Timebase) : (s.setTb tb).shadow = s.shadow := rfl
@[simp] theorem setTb_runtimes (tb : Timebase) : (s.setTb tb).runtimes = s.runtimes := rfl
@[simp] theorem setTb_store (tb : Timebase) : (s.setTb tb).store = s.store := rfl
@[simp] theorem setTb_clearing (tb : Timebase) : (s.setTb tb).clearing = s.clearing := rfl
@[simp] theorem setTb_exchange (tb : Timebase) : (s.setTb tb).exchange = s.exchange := rfl
@[simp] theorem setTb_ballot (tb : Timebase) : (s.setTb tb).ballot = s.ballot := rfl
@[simp] theorem setTb_switchPending (tb : Timebase) : (s.setTb tb).switchPending = s.switchPending := rfl
@[simp] theorem setTb_tb (tb : Timebase) : (s.setTb tb).tb = tb := rfl
@[simp] theorem setTb_ml (tb : Timebase) : (s.setTb tb).ml = s.ml := rfl
@[simp] theorem setTb_opt (tb : Timebase) : (s.setTb tb).opt = s.opt := rfl
@[simp] theorem setTb_port (tb : Timebase) (m : Port) : (s.setTb tb).port m = s.port m := rfl
@[simp] theorem setTb_lane (tb : Timebase) (k : LaneNo) : (s.setTb tb).lane k = s.lane k := rfl
@[simp] theorem setTb_runtime (tb : Timebase) (q : RecNo) : (s.setTb tb).runtime q = s.runtime q := rfl
@[simp] theorem setTb_activeDef (tb : Timebase) (q : RecNo) : (s.setTb tb).activeDef q = s.activeDef q := rfl
@[simp] theorem setTb_shadowDef (tb : Timebase) (q : RecNo) : (s.setTb tb).shadowDef q = s.shadowDef q := rfl
@[simp] theorem setTb_isMember (tb : Timebase) (m : Port) : (s.setTb tb).isMember m = s.isMember m := rfl
@[simp] theorem setTb_memberCount (tb : Timebase) : (s.setTb tb).memberCount = s.memberCount := rfl
@[simp] theorem setTb_live (tb : Timebase) : (s.setTb tb).live = s.live := rfl
@[simp] theorem setTb_openItem (tb : Timebase) : (s.setTb tb).openItem = s.openItem := rfl
@[simp] theorem setTb_shadowLocked (tb : Timebase) : (s.setTb tb).shadowLocked = s.shadowLocked := rfl

/-! ## setMl -/

@[simp] theorem setMl_pending (x : MLine) : (s.setMl x).pending = s.pending := rfl
@[simp] theorem setMl_powered (x : MLine) : (s.setMl x).powered = s.powered := rfl
@[simp] theorem setMl_resetLow (x : MLine) : (s.setMl x).resetLow = s.resetLow := rfl
@[simp] theorem setMl_members (x : MLine) : (s.setMl x).members = s.members := rfl
@[simp] theorem setMl_ports (x : MLine) : (s.setMl x).ports = s.ports := rfl
@[simp] theorem setMl_lanes (x : MLine) : (s.setMl x).lanes = s.lanes := rfl
@[simp] theorem setMl_arbiter (x : MLine) : (s.setMl x).arbiter = s.arbiter := rfl
@[simp] theorem setMl_active (x : MLine) : (s.setMl x).active = s.active := rfl
@[simp] theorem setMl_shadow (x : MLine) : (s.setMl x).shadow = s.shadow := rfl
@[simp] theorem setMl_runtimes (x : MLine) : (s.setMl x).runtimes = s.runtimes := rfl
@[simp] theorem setMl_store (x : MLine) : (s.setMl x).store = s.store := rfl
@[simp] theorem setMl_clearing (x : MLine) : (s.setMl x).clearing = s.clearing := rfl
@[simp] theorem setMl_exchange (x : MLine) : (s.setMl x).exchange = s.exchange := rfl
@[simp] theorem setMl_ballot (x : MLine) : (s.setMl x).ballot = s.ballot := rfl
@[simp] theorem setMl_switchPending (x : MLine) : (s.setMl x).switchPending = s.switchPending := rfl
@[simp] theorem setMl_tb (x : MLine) : (s.setMl x).tb = s.tb := rfl
@[simp] theorem setMl_ml (x : MLine) : (s.setMl x).ml = x := rfl
@[simp] theorem setMl_opt (x : MLine) : (s.setMl x).opt = s.opt := rfl
@[simp] theorem setMl_port (x : MLine) (m : Port) : (s.setMl x).port m = s.port m := rfl
@[simp] theorem setMl_lane (x : MLine) (k : LaneNo) : (s.setMl x).lane k = s.lane k := rfl
@[simp] theorem setMl_runtime (x : MLine) (q : RecNo) : (s.setMl x).runtime q = s.runtime q := rfl
@[simp] theorem setMl_activeDef (x : MLine) (q : RecNo) : (s.setMl x).activeDef q = s.activeDef q := rfl
@[simp] theorem setMl_shadowDef (x : MLine) (q : RecNo) : (s.setMl x).shadowDef q = s.shadowDef q := rfl
@[simp] theorem setMl_isMember (x : MLine) (m : Port) : (s.setMl x).isMember m = s.isMember m := rfl
@[simp] theorem setMl_memberCount (x : MLine) : (s.setMl x).memberCount = s.memberCount := rfl
@[simp] theorem setMl_live (x : MLine) : (s.setMl x).live = s.live := rfl
@[simp] theorem setMl_openItem (x : MLine) : (s.setMl x).openItem = s.openItem := rfl
@[simp] theorem setMl_shadowLocked (x : MLine) : (s.setMl x).shadowLocked = s.shadowLocked := rfl

/-! ## setExchange -/

@[simp] theorem setExchange_pending (x : ExState) : (s.setExchange x).pending = s.pending := rfl
@[simp] theorem setExchange_powered (x : ExState) : (s.setExchange x).powered = s.powered := rfl
@[simp] theorem setExchange_resetLow (x : ExState) : (s.setExchange x).resetLow = s.resetLow := rfl
@[simp] theorem setExchange_members (x : ExState) : (s.setExchange x).members = s.members := rfl
@[simp] theorem setExchange_ports (x : ExState) : (s.setExchange x).ports = s.ports := rfl
@[simp] theorem setExchange_lanes (x : ExState) : (s.setExchange x).lanes = s.lanes := rfl
@[simp] theorem setExchange_arbiter (x : ExState) : (s.setExchange x).arbiter = s.arbiter := rfl
@[simp] theorem setExchange_active (x : ExState) : (s.setExchange x).active = s.active := rfl
@[simp] theorem setExchange_shadow (x : ExState) : (s.setExchange x).shadow = s.shadow := rfl
@[simp] theorem setExchange_runtimes (x : ExState) : (s.setExchange x).runtimes = s.runtimes := rfl
@[simp] theorem setExchange_store (x : ExState) : (s.setExchange x).store = s.store := rfl
@[simp] theorem setExchange_clearing (x : ExState) : (s.setExchange x).clearing = s.clearing := rfl
@[simp] theorem setExchange_exchange (x : ExState) : (s.setExchange x).exchange = x := rfl
@[simp] theorem setExchange_ballot (x : ExState) : (s.setExchange x).ballot = s.ballot := rfl
@[simp] theorem setExchange_switchPending (x : ExState) : (s.setExchange x).switchPending = s.switchPending := rfl
@[simp] theorem setExchange_tb (x : ExState) : (s.setExchange x).tb = s.tb := rfl
@[simp] theorem setExchange_ml (x : ExState) : (s.setExchange x).ml = s.ml := rfl
@[simp] theorem setExchange_opt (x : ExState) : (s.setExchange x).opt = s.opt := rfl
@[simp] theorem setExchange_port (x : ExState) (m : Port) : (s.setExchange x).port m = s.port m := rfl
@[simp] theorem setExchange_lane (x : ExState) (k : LaneNo) : (s.setExchange x).lane k = s.lane k := rfl
@[simp] theorem setExchange_runtime (x : ExState) (q : RecNo) : (s.setExchange x).runtime q = s.runtime q := rfl
@[simp] theorem setExchange_activeDef (x : ExState) (q : RecNo) : (s.setExchange x).activeDef q = s.activeDef q := rfl
@[simp] theorem setExchange_shadowDef (x : ExState) (q : RecNo) : (s.setExchange x).shadowDef q = s.shadowDef q := rfl
@[simp] theorem setExchange_isMember (x : ExState) (m : Port) : (s.setExchange x).isMember m = s.isMember m := rfl
@[simp] theorem setExchange_memberCount (x : ExState) : (s.setExchange x).memberCount = s.memberCount := rfl
@[simp] theorem setExchange_live (x : ExState) : (s.setExchange x).live = s.live := rfl
@[simp] theorem setExchange_openItem (x : ExState) : (s.setExchange x).openItem = s.openItem := rfl
@[simp] theorem setExchange_shadowLocked (x : ExState) : (s.setExchange x).shadowLocked = s.shadowLocked := rfl

/-! ## setShadow -/

@[simp] theorem setShadow_pending (i : Image) : (s.setShadow i).pending = s.pending := rfl
@[simp] theorem setShadow_powered (i : Image) : (s.setShadow i).powered = s.powered := rfl
@[simp] theorem setShadow_resetLow (i : Image) : (s.setShadow i).resetLow = s.resetLow := rfl
@[simp] theorem setShadow_members (i : Image) : (s.setShadow i).members = s.members := rfl
@[simp] theorem setShadow_ports (i : Image) : (s.setShadow i).ports = s.ports := rfl
@[simp] theorem setShadow_lanes (i : Image) : (s.setShadow i).lanes = s.lanes := rfl
@[simp] theorem setShadow_arbiter (i : Image) : (s.setShadow i).arbiter = s.arbiter := rfl
@[simp] theorem setShadow_active (i : Image) : (s.setShadow i).active = s.active := rfl
@[simp] theorem setShadow_shadow (i : Image) : (s.setShadow i).shadow = i := rfl
@[simp] theorem setShadow_runtimes (i : Image) : (s.setShadow i).runtimes = s.runtimes := rfl
@[simp] theorem setShadow_store (i : Image) : (s.setShadow i).store = s.store := rfl
@[simp] theorem setShadow_clearing (i : Image) : (s.setShadow i).clearing = s.clearing := rfl
@[simp] theorem setShadow_exchange (i : Image) : (s.setShadow i).exchange = s.exchange := rfl
@[simp] theorem setShadow_ballot (i : Image) : (s.setShadow i).ballot = s.ballot := rfl
@[simp] theorem setShadow_switchPending (i : Image) : (s.setShadow i).switchPending = s.switchPending := rfl
@[simp] theorem setShadow_tb (i : Image) : (s.setShadow i).tb = s.tb := rfl
@[simp] theorem setShadow_ml (i : Image) : (s.setShadow i).ml = s.ml := rfl
@[simp] theorem setShadow_opt (i : Image) : (s.setShadow i).opt = s.opt := rfl
@[simp] theorem setShadow_port (i : Image) (m : Port) : (s.setShadow i).port m = s.port m := rfl
@[simp] theorem setShadow_lane (i : Image) (k : LaneNo) : (s.setShadow i).lane k = s.lane k := rfl
@[simp] theorem setShadow_runtime (i : Image) (q : RecNo) : (s.setShadow i).runtime q = s.runtime q := rfl
@[simp] theorem setShadow_activeDef (i : Image) (q : RecNo) : (s.setShadow i).activeDef q = s.activeDef q := rfl
@[simp] theorem setShadow_isMember (i : Image) (m : Port) : (s.setShadow i).isMember m = s.isMember m := rfl
@[simp] theorem setShadow_memberCount (i : Image) : (s.setShadow i).memberCount = s.memberCount := rfl
@[simp] theorem setShadow_live (i : Image) : (s.setShadow i).live = s.live := rfl
@[simp] theorem setShadow_openItem (i : Image) : (s.setShadow i).openItem = s.openItem := rfl
@[simp] theorem setShadow_shadowLocked (i : Image) : (s.setShadow i).shadowLocked = s.shadowLocked := rfl

/-! ## setBallot -/

@[simp] theorem setBallot_pending (b : BallotRecord) : (s.setBallot b).pending = s.pending := rfl
@[simp] theorem setBallot_powered (b : BallotRecord) : (s.setBallot b).powered = s.powered := rfl
@[simp] theorem setBallot_resetLow (b : BallotRecord) : (s.setBallot b).resetLow = s.resetLow := rfl
@[simp] theorem setBallot_members (b : BallotRecord) : (s.setBallot b).members = s.members := rfl
@[simp] theorem setBallot_ports (b : BallotRecord) : (s.setBallot b).ports = s.ports := rfl
@[simp] theorem setBallot_lanes (b : BallotRecord) : (s.setBallot b).lanes = s.lanes := rfl
@[simp] theorem setBallot_arbiter (b : BallotRecord) : (s.setBallot b).arbiter = s.arbiter := rfl
@[simp] theorem setBallot_active (b : BallotRecord) : (s.setBallot b).active = s.active := rfl
@[simp] theorem setBallot_shadow (b : BallotRecord) : (s.setBallot b).shadow = s.shadow := rfl
@[simp] theorem setBallot_runtimes (b : BallotRecord) : (s.setBallot b).runtimes = s.runtimes := rfl
@[simp] theorem setBallot_store (b : BallotRecord) : (s.setBallot b).store = s.store := rfl
@[simp] theorem setBallot_clearing (b : BallotRecord) : (s.setBallot b).clearing = s.clearing := rfl
@[simp] theorem setBallot_exchange (b : BallotRecord) : (s.setBallot b).exchange = s.exchange := rfl
@[simp] theorem setBallot_ballot (b : BallotRecord) : (s.setBallot b).ballot = b := rfl
@[simp] theorem setBallot_switchPending (b : BallotRecord) : (s.setBallot b).switchPending = s.switchPending := rfl
@[simp] theorem setBallot_tb (b : BallotRecord) : (s.setBallot b).tb = s.tb := rfl
@[simp] theorem setBallot_ml (b : BallotRecord) : (s.setBallot b).ml = s.ml := rfl
@[simp] theorem setBallot_opt (b : BallotRecord) : (s.setBallot b).opt = s.opt := rfl
@[simp] theorem setBallot_port (b : BallotRecord) (m : Port) : (s.setBallot b).port m = s.port m := rfl
@[simp] theorem setBallot_lane (b : BallotRecord) (k : LaneNo) : (s.setBallot b).lane k = s.lane k := rfl
@[simp] theorem setBallot_runtime (b : BallotRecord) (q : RecNo) : (s.setBallot b).runtime q = s.runtime q := rfl
@[simp] theorem setBallot_activeDef (b : BallotRecord) (q : RecNo) : (s.setBallot b).activeDef q = s.activeDef q := rfl
@[simp] theorem setBallot_shadowDef (b : BallotRecord) (q : RecNo) : (s.setBallot b).shadowDef q = s.shadowDef q := rfl
@[simp] theorem setBallot_isMember (b : BallotRecord) (m : Port) : (s.setBallot b).isMember m = s.isMember m := rfl
@[simp] theorem setBallot_memberCount (b : BallotRecord) : (s.setBallot b).memberCount = s.memberCount := rfl
@[simp] theorem setBallot_live (b : BallotRecord) : (s.setBallot b).live = s.live := rfl

/-! ## setArbiter -/

@[simp] theorem setArbiter_pending (l : LaneNo) : (s.setArbiter l).pending = s.pending := rfl
@[simp] theorem setArbiter_powered (l : LaneNo) : (s.setArbiter l).powered = s.powered := rfl
@[simp] theorem setArbiter_resetLow (l : LaneNo) : (s.setArbiter l).resetLow = s.resetLow := rfl
@[simp] theorem setArbiter_members (l : LaneNo) : (s.setArbiter l).members = s.members := rfl
@[simp] theorem setArbiter_ports (l : LaneNo) : (s.setArbiter l).ports = s.ports := rfl
@[simp] theorem setArbiter_lanes (l : LaneNo) : (s.setArbiter l).lanes = s.lanes := rfl
@[simp] theorem setArbiter_arbiter (l : LaneNo) : (s.setArbiter l).arbiter = l := rfl
@[simp] theorem setArbiter_active (l : LaneNo) : (s.setArbiter l).active = s.active := rfl
@[simp] theorem setArbiter_shadow (l : LaneNo) : (s.setArbiter l).shadow = s.shadow := rfl
@[simp] theorem setArbiter_runtimes (l : LaneNo) : (s.setArbiter l).runtimes = s.runtimes := rfl
@[simp] theorem setArbiter_store (l : LaneNo) : (s.setArbiter l).store = s.store := rfl
@[simp] theorem setArbiter_clearing (l : LaneNo) : (s.setArbiter l).clearing = s.clearing := rfl
@[simp] theorem setArbiter_exchange (l : LaneNo) : (s.setArbiter l).exchange = s.exchange := rfl
@[simp] theorem setArbiter_ballot (l : LaneNo) : (s.setArbiter l).ballot = s.ballot := rfl
@[simp] theorem setArbiter_switchPending (l : LaneNo) : (s.setArbiter l).switchPending = s.switchPending := rfl
@[simp] theorem setArbiter_tb (l : LaneNo) : (s.setArbiter l).tb = s.tb := rfl
@[simp] theorem setArbiter_ml (l : LaneNo) : (s.setArbiter l).ml = s.ml := rfl
@[simp] theorem setArbiter_opt (l : LaneNo) : (s.setArbiter l).opt = s.opt := rfl
@[simp] theorem setArbiter_port (l : LaneNo) (m : Port) : (s.setArbiter l).port m = s.port m := rfl
@[simp] theorem setArbiter_lane (l : LaneNo) (k : LaneNo) : (s.setArbiter l).lane k = s.lane k := rfl
@[simp] theorem setArbiter_runtime (l : LaneNo) (q : RecNo) : (s.setArbiter l).runtime q = s.runtime q := rfl
@[simp] theorem setArbiter_activeDef (l : LaneNo) (q : RecNo) : (s.setArbiter l).activeDef q = s.activeDef q := rfl
@[simp] theorem setArbiter_shadowDef (l : LaneNo) (q : RecNo) : (s.setArbiter l).shadowDef q = s.shadowDef q := rfl
@[simp] theorem setArbiter_isMember (l : LaneNo) (m : Port) : (s.setArbiter l).isMember m = s.isMember m := rfl
@[simp] theorem setArbiter_memberCount (l : LaneNo) : (s.setArbiter l).memberCount = s.memberCount := rfl
@[simp] theorem setArbiter_live (l : LaneNo) : (s.setArbiter l).live = s.live := rfl
@[simp] theorem setArbiter_openItem (l : LaneNo) : (s.setArbiter l).openItem = s.openItem := rfl
@[simp] theorem setArbiter_shadowLocked (l : LaneNo) : (s.setArbiter l).shadowLocked = s.shadowLocked := rfl

/-! ## Reading what was written -/

@[simp] theorem modPort_port_same (n : Port) (f : PortState → PortState) : (s.modPort n f).port n = f (s.port n) := by
  simp [State.port]

theorem modPort_port_other {m n : Port} (h : m ≠ n) (f : PortState → PortState) : (s.modPort n f).port m = s.port m := by
  simp only [State.port, modPort_ports]
  exact Vector.getElem_set_ne _ _ (fun e => h (Fin.ext e.symm))

theorem modPort_port (m n : Port) (f : PortState → PortState) :
    (s.modPort n f).port m = if m = n then f (s.port n) else s.port m := by
  split
  · next h => subst h; simp
  · next h => exact modPort_port_other s h f

@[simp] theorem setLane_lane_same (l : LaneNo) (x : Lane) : (s.setLane l x).lane l = x := by simp [State.lane]

theorem setLane_lane_other {k l : LaneNo} (h : k ≠ l) (x : Lane) : (s.setLane l x).lane k = s.lane k := by
  simp only [State.lane, setLane_lanes]
  exact Vector.getElem_set_ne _ _ (fun e => h (Fin.ext e.symm))

theorem setLane_lane (k l : LaneNo) (x : Lane) : (s.setLane l x).lane k = if k = l then x else s.lane k := by
  split
  · next h => subst h; simp
  · next h => exact setLane_lane_other s h x

@[simp] theorem setRuntime_runtime_same (r : RecNo) (rt : Runtime) : (s.setRuntime r rt).runtime r = some rt := by
  simp [State.runtime]

theorem setRuntime_runtime_other {q r : RecNo} (h : q ≠ r) (rt : Runtime) :
    (s.setRuntime r rt).runtime q = s.runtime q := by
  simp only [State.runtime, setRuntime_runtimes]
  exact Vector.getElem_set_ne _ _ (fun e => h (Fin.ext e.symm))

theorem setRuntime_runtime (q r : RecNo) (rt : Runtime) :
    (s.setRuntime r rt).runtime q = if q = r then some rt else s.runtime q := by
  split
  · next h => subst h; simp
  · next h => exact setRuntime_runtime_other s h rt

/-! ## Lanes and ports -/

@[simp] theorem portOf_laneOf (n : Port) : portOf (laneOf n) = some n := by revert n; decide

@[simp] theorem portOf_lm : portOf lm = none := rfl

theorem laneOf_ne_lm (n : Port) : laneOf n ≠ lm := by revert n; decide

theorem laneOf_inj {m n : Port} : laneOf m = laneOf n ↔ m = n := by revert m n; decide

theorem portOf_eq_some {l : LaneNo} {n : Port} : portOf l = some n ↔ l = laneOf n := by revert l n; decide

theorem portOf_eq_none {l : LaneNo} : portOf l = none ↔ l = lm := by revert l; decide

theorem mem_allPorts (n : Port) : n ∈ allPorts := by revert n; decide

theorem mem_allLanes (l : LaneNo) : l ∈ allLanes := by revert l; decide

theorem mem_allRecords (r : RecNo) : r ∈ allRecords := List.mem_finRange r

theorem mem_allBuffers (b : Buf) : b ∈ allBuffers := by revert b; decide

end Sys2Proof.Machine
end

