-- ==== Sys2Proof/Laws/Frames.lean ====
section
/-! SUPPORT. Frames of the shared operations: one lemma for each, every conjunct of which is a rewriting rule for one field of the
state that the operation leaves unchanged. -/

set_option Elab.async false

namespace Sys2Proof.Machine

variable (s : State)

/-- A left fold keeps a property that each of its steps keeps. -/
theorem foldl_preserves {α β : Type} (f : β → α → β) (p : β → Prop) (h : ∀ b a, p b → p (f b a)) (l : List α) (b : β)
    (hb : p b) : p (l.foldl f b) := by
  induction l generalizing b with
  | nil => exact hb
  | cons a l ih => exact ih _ (h b a hb)

@[simp] theorem hand_frame (n : Port) (e : Entry) :
    (s.hand n e).pending = s.pending ∧ (s.hand n e).powered = s.powered ∧ (s.hand n e).resetLow = s.resetLow ∧
    (s.hand n e).members = s.members ∧ (s.hand n e).lanes = s.lanes ∧ (s.hand n e).arbiter = s.arbiter ∧
    (s.hand n e).active = s.active ∧ (s.hand n e).shadow = s.shadow ∧ (s.hand n e).runtimes = s.runtimes ∧
    (s.hand n e).store = s.store ∧ (s.hand n e).clearing = s.clearing ∧ (s.hand n e).exchange = s.exchange ∧
    (s.hand n e).ballot = s.ballot ∧ (s.hand n e).switchPending = s.switchPending ∧ (s.hand n e).tb = s.tb ∧
    (s.hand n e).ml = s.ml ∧ (s.hand n e).opt = s.opt := by
  refine ⟨rfl, rfl, rfl, rfl, rfl, rfl, rfl, rfl, rfl, rfl, rfl, rfl, rfl, rfl, rfl, rfl, rfl⟩

@[simp] theorem handAll_frame (ps : PortSet) (e : Entry) :
    (s.handAll ps e).pending = s.pending ∧ (s.handAll ps e).powered = s.powered ∧
    (s.handAll ps e).resetLow = s.resetLow ∧ (s.handAll ps e).members = s.members ∧
    (s.handAll ps e).lanes = s.lanes ∧ (s.handAll ps e).arbiter = s.arbiter ∧ (s.handAll ps e).active = s.active ∧
    (s.handAll ps e).shadow = s.shadow ∧ (s.handAll ps e).runtimes = s.runtimes ∧
    (s.handAll ps e).store = s.store ∧ (s.handAll ps e).clearing = s.clearing ∧
    (s.handAll ps e).exchange = s.exchange ∧ (s.handAll ps e).ballot = s.ballot ∧
    (s.handAll ps e).switchPending = s.switchPending ∧ (s.handAll ps e).tb = s.tb ∧ (s.handAll ps e).ml = s.ml ∧
    (s.handAll ps e).opt = s.opt := by
  refine foldl_preserves _ (fun t : State => t.pending = s.pending ∧ t.powered = s.powered ∧ t.resetLow = s.resetLow ∧ t.members = s.members ∧
      t.lanes = s.lanes ∧ t.arbiter = s.arbiter ∧ t.active = s.active ∧ t.shadow = s.shadow ∧
      t.runtimes = s.runtimes ∧ t.store = s.store ∧ t.clearing = s.clearing ∧ t.exchange = s.exchange ∧
      t.ballot = s.ballot ∧ t.switchPending = s.switchPending ∧ t.tb = s.tb ∧ t.ml = s.ml ∧ t.opt = s.opt) ?_ _ _ (by simp)
  intro t x h
  split
  · simpa using h
  · exact h

@[simp] theorem ballotNote_frame (i : Item) (o : BallotOutcome) :
    (s.ballotNote i o).pending = s.pending ∧ (s.ballotNote i o).powered = s.powered ∧
    (s.ballotNote i o).resetLow = s.resetLow ∧ (s.ballotNote i o).members = s.members ∧
    (s.ballotNote i o).lanes = s.lanes ∧ (s.ballotNote i o).arbiter = s.arbiter ∧
    (s.ballotNote i o).active = s.active ∧ (s.ballotNote i o).shadow = s.shadow ∧
    (s.ballotNote i o).runtimes = s.runtimes ∧ (s.ballotNote i o).store = s.store ∧
    (s.ballotNote i o).clearing = s.clearing ∧ (s.ballotNote i o).exchange = s.exchange ∧
    (s.ballotNote i o).ballot = s.ballot ∧ (s.ballotNote i o).switchPending = s.switchPending ∧
    (s.ballotNote i o).tb = s.tb ∧ (s.ballotNote i o).ml = s.ml ∧ (s.ballotNote i o).opt = s.opt := by simp [State.ballotNote]

@[simp] theorem switchNote_frame (d : SwitchDetail) :
    (s.switchNote d).pending = s.pending ∧ (s.switchNote d).powered = s.powered ∧
    (s.switchNote d).resetLow = s.resetLow ∧ (s.switchNote d).members = s.members ∧
    (s.switchNote d).lanes = s.lanes ∧ (s.switchNote d).arbiter = s.arbiter ∧ (s.switchNote d).active = s.active ∧
    (s.switchNote d).shadow = s.shadow ∧ (s.switchNote d).runtimes = s.runtimes ∧
    (s.switchNote d).store = s.store ∧ (s.switchNote d).clearing = s.clearing ∧
    (s.switchNote d).exchange = s.exchange ∧ (s.switchNote d).ballot = s.ballot ∧
    (s.switchNote d).switchPending = s.switchPending ∧ (s.switchNote d).tb = s.tb ∧ (s.switchNote d).ml = s.ml ∧
    (s.switchNote d).opt = s.opt := by simp [State.switchNote]

@[simp] theorem exchangeNote_frame :
    (s.exchangeNote).pending = s.pending ∧ (s.exchangeNote).powered = s.powered ∧
    (s.exchangeNote).resetLow = s.resetLow ∧ (s.exchangeNote).members = s.members ∧
    (s.exchangeNote).lanes = s.lanes ∧ (s.exchangeNote).arbiter = s.arbiter ∧ (s.exchangeNote).active = s.active ∧
    (s.exchangeNote).shadow = s.shadow ∧ (s.exchangeNote).runtimes = s.runtimes ∧
    (s.exchangeNote).store = s.store ∧ (s.exchangeNote).clearing = s.clearing ∧
    (s.exchangeNote).exchange = s.exchange ∧ (s.exchangeNote).ballot = s.ballot ∧
    (s.exchangeNote).switchPending = s.switchPending ∧ (s.exchangeNote).tb = s.tb ∧ (s.exchangeNote).ml = s.ml ∧
    (s.exchangeNote).opt = s.opt := by simp [State.exchangeNote]

@[simp] theorem timebaseNote_frame :
    (s.timebaseNote).pending = s.pending ∧ (s.timebaseNote).powered = s.powered ∧
    (s.timebaseNote).resetLow = s.resetLow ∧ (s.timebaseNote).members = s.members ∧
    (s.timebaseNote).lanes = s.lanes ∧ (s.timebaseNote).arbiter = s.arbiter ∧ (s.timebaseNote).active = s.active ∧
    (s.timebaseNote).shadow = s.shadow ∧ (s.timebaseNote).runtimes = s.runtimes ∧
    (s.timebaseNote).store = s.store ∧ (s.timebaseNote).clearing = s.clearing ∧
    (s.timebaseNote).exchange = s.exchange ∧ (s.timebaseNote).ballot = s.ballot ∧
    (s.timebaseNote).switchPending = s.switchPending ∧ (s.timebaseNote).tb = s.tb ∧ (s.timebaseNote).ml = s.ml ∧
    (s.timebaseNote).opt = s.opt := by simp [State.timebaseNote]

@[simp] theorem modRuntime_frame (r : RecNo) (f : Runtime → Runtime) :
    (s.modRuntime r f).pending = s.pending ∧ (s.modRuntime r f).powered = s.powered ∧
    (s.modRuntime r f).resetLow = s.resetLow ∧ (s.modRuntime r f).members = s.members ∧
    (s.modRuntime r f).ports = s.ports ∧ (s.modRuntime r f).lanes = s.lanes ∧
    (s.modRuntime r f).arbiter = s.arbiter ∧ (s.modRuntime r f).active = s.active ∧
    (s.modRuntime r f).shadow = s.shadow ∧ (s.modRuntime r f).store = s.store ∧
    (s.modRuntime r f).clearing = s.clearing ∧ (s.modRuntime r f).exchange = s.exchange ∧
    (s.modRuntime r f).ballot = s.ballot ∧ (s.modRuntime r f).switchPending = s.switchPending ∧
    (s.modRuntime r f).tb = s.tb ∧ (s.modRuntime r f).ml = s.ml ∧ (s.modRuntime r f).opt = s.opt := by unfold State.modRuntime; split <;> simp

@[simp] theorem endTransfer_frame (l : LaneNo) (x : TransferResult) :
    (s.endTransfer l x).pending = s.pending ∧ (s.endTransfer l x).powered = s.powered ∧
    (s.endTransfer l x).resetLow = s.resetLow ∧ (s.endTransfer l x).members = s.members ∧
    (s.endTransfer l x).ports = s.ports ∧ (s.endTransfer l x).arbiter = s.arbiter ∧
    (s.endTransfer l x).active = s.active ∧ (s.endTransfer l x).shadow = s.shadow ∧
    (s.endTransfer l x).runtimes = s.runtimes ∧ (s.endTransfer l x).store = s.store ∧
    (s.endTransfer l x).clearing = s.clearing ∧ (s.endTransfer l x).exchange = s.exchange ∧
    (s.endTransfer l x).ballot = s.ballot ∧ (s.endTransfer l x).switchPending = s.switchPending ∧
    (s.endTransfer l x).tb = s.tb ∧ (s.endTransfer l x).ml = s.ml ∧ (s.endTransfer l x).opt = s.opt := by
  refine ⟨rfl, rfl, rfl, rfl, rfl, rfl, rfl, rfl, rfl, rfl, rfl, rfl, rfl, rfl, rfl, rfl, rfl⟩

@[simp] theorem setXfer_frame (n : Port) :
    (s.setXfer n).pending = s.pending ∧ (s.setXfer n).powered = s.powered ∧ (s.setXfer n).resetLow = s.resetLow ∧
    (s.setXfer n).members = s.members ∧ (s.setXfer n).lanes = s.lanes ∧ (s.setXfer n).arbiter = s.arbiter ∧
    (s.setXfer n).active = s.active ∧ (s.setXfer n).shadow = s.shadow ∧ (s.setXfer n).runtimes = s.runtimes ∧
    (s.setXfer n).store = s.store ∧ (s.setXfer n).clearing = s.clearing ∧ (s.setXfer n).exchange = s.exchange ∧
    (s.setXfer n).ballot = s.ballot ∧ (s.setXfer n).switchPending = s.switchPending ∧ (s.setXfer n).tb = s.tb ∧
    (s.setXfer n).ml = s.ml ∧ (s.setXfer n).opt = s.opt := by
  refine ⟨rfl, rfl, rfl, rfl, rfl, rfl, rfl, rfl, rfl, rfl, rfl, rfl, rfl, rfl, rfl, rfl, rfl⟩

@[simp] theorem setDescState_frame (n : Port) (d : DescState) :
    (s.setDescState n d).pending = s.pending ∧ (s.setDescState n d).powered = s.powered ∧
    (s.setDescState n d).resetLow = s.resetLow ∧ (s.setDescState n d).members = s.members ∧
    (s.setDescState n d).lanes = s.lanes ∧ (s.setDescState n d).arbiter = s.arbiter ∧
    (s.setDescState n d).active = s.active ∧ (s.setDescState n d).shadow = s.shadow ∧
    (s.setDescState n d).runtimes = s.runtimes ∧ (s.setDescState n d).store = s.store ∧
    (s.setDescState n d).clearing = s.clearing ∧ (s.setDescState n d).exchange = s.exchange ∧
    (s.setDescState n d).ballot = s.ballot ∧ (s.setDescState n d).switchPending = s.switchPending ∧
    (s.setDescState n d).tb = s.tb ∧ (s.setDescState n d).ml = s.ml ∧ (s.setDescState n d).opt = s.opt := by
  refine ⟨rfl, rfl, rfl, rfl, rfl, rfl, rfl, rfl, rfl, rfl, rfl, rfl, rfl, rfl, rfl, rfl, rfl⟩

@[simp] theorem reportPeek_frame (p : PeekStatus) :
    (s.reportPeek p).pending = s.pending ∧ (s.reportPeek p).powered = s.powered ∧
    (s.reportPeek p).resetLow = s.resetLow ∧ (s.reportPeek p).members = s.members ∧
    (s.reportPeek p).ports = s.ports ∧ (s.reportPeek p).lanes = s.lanes ∧ (s.reportPeek p).arbiter = s.arbiter ∧
    (s.reportPeek p).active = s.active ∧ (s.reportPeek p).shadow = s.shadow ∧
    (s.reportPeek p).runtimes = s.runtimes ∧ (s.reportPeek p).store = s.store ∧
    (s.reportPeek p).clearing = s.clearing ∧ (s.reportPeek p).exchange = s.exchange ∧
    (s.reportPeek p).ballot = s.ballot ∧ (s.reportPeek p).switchPending = s.switchPending ∧
    (s.reportPeek p).tb = s.tb ∧ (s.reportPeek p).opt = s.opt := by
  refine ⟨rfl, rfl, rfl, rfl, rfl, rfl, rfl, rfl, rfl, rfl, rfl, rfl, rfl, rfl, rfl, rfl, rfl⟩

@[simp] theorem startWaiting_frame (l : LaneNo) (r : RecNo) :
    (s.startWaiting l r).pending = s.pending ∧ (s.startWaiting l r).powered = s.powered ∧
    (s.startWaiting l r).resetLow = s.resetLow ∧ (s.startWaiting l r).members = s.members ∧
    (s.startWaiting l r).ports = s.ports ∧ (s.startWaiting l r).arbiter = s.arbiter ∧
    (s.startWaiting l r).active = s.active ∧ (s.startWaiting l r).shadow = s.shadow ∧
    (s.startWaiting l r).runtimes = s.runtimes ∧ (s.startWaiting l r).store = s.store ∧
    (s.startWaiting l r).clearing = s.clearing ∧ (s.startWaiting l r).exchange = s.exchange ∧
    (s.startWaiting l r).ballot = s.ballot ∧ (s.startWaiting l r).switchPending = s.switchPending ∧
    (s.startWaiting l r).tb = s.tb ∧ (s.startWaiting l r).ml = s.ml ∧ (s.startWaiting l r).opt = s.opt := by unfold State.startWaiting; split <;> simp

@[simp] theorem unpinClaim_frame (r : RecNo) (b : Buf) :
    (s.unpinClaim r b).pending = s.pending ∧ (s.unpinClaim r b).powered = s.powered ∧
    (s.unpinClaim r b).resetLow = s.resetLow ∧ (s.unpinClaim r b).members = s.members ∧
    (s.unpinClaim r b).ports = s.ports ∧ (s.unpinClaim r b).arbiter = s.arbiter ∧
    (s.unpinClaim r b).active = s.active ∧ (s.unpinClaim r b).shadow = s.shadow ∧
    (s.unpinClaim r b).store = s.store ∧ (s.unpinClaim r b).clearing = s.clearing ∧
    (s.unpinClaim r b).exchange = s.exchange ∧ (s.unpinClaim r b).ballot = s.ballot ∧
    (s.unpinClaim r b).switchPending = s.switchPending ∧ (s.unpinClaim r b).tb = s.tb ∧
    (s.unpinClaim r b).ml = s.ml ∧ (s.unpinClaim r b).opt = s.opt := by unfold State.unpinClaim; split <;> (try dsimp only) <;> (try split) <;> simp

@[simp] theorem abortLane_frame (l : LaneNo) (x : TransferResult) :
    (s.abortLane l x).pending = s.pending ∧ (s.abortLane l x).powered = s.powered ∧
    (s.abortLane l x).resetLow = s.resetLow ∧ (s.abortLane l x).members = s.members ∧
    (s.abortLane l x).arbiter = s.arbiter ∧ (s.abortLane l x).active = s.active ∧
    (s.abortLane l x).shadow = s.shadow ∧ (s.abortLane l x).runtimes = s.runtimes ∧
    (s.abortLane l x).store = s.store ∧ (s.abortLane l x).clearing = s.clearing ∧
    (s.abortLane l x).exchange = s.exchange ∧ (s.abortLane l x).ballot = s.ballot ∧
    (s.abortLane l x).switchPending = s.switchPending ∧ (s.abortLane l x).tb = s.tb ∧ (s.abortLane l x).opt = s.opt := by unfold State.abortLane; dsimp only; split <;> (try split) <;> simp

@[simp] theorem abortLanes_frame (x : TransferResult) (on : RecNo → Bool) :
    (s.abortLanes x on).pending = s.pending ∧ (s.abortLanes x on).powered = s.powered ∧
    (s.abortLanes x on).resetLow = s.resetLow ∧ (s.abortLanes x on).members = s.members ∧
    (s.abortLanes x on).arbiter = s.arbiter ∧ (s.abortLanes x on).active = s.active ∧
    (s.abortLanes x on).shadow = s.shadow ∧ (s.abortLanes x on).runtimes = s.runtimes ∧
    (s.abortLanes x on).store = s.store ∧ (s.abortLanes x on).clearing = s.clearing ∧
    (s.abortLanes x on).exchange = s.exchange ∧ (s.abortLanes x on).ballot = s.ballot ∧
    (s.abortLanes x on).switchPending = s.switchPending ∧ (s.abortLanes x on).tb = s.tb ∧
    (s.abortLanes x on).opt = s.opt := by
  refine foldl_preserves _ (fun t : State => t.pending = s.pending ∧ t.powered = s.powered ∧ t.resetLow = s.resetLow ∧ t.members = s.members ∧
      t.arbiter = s.arbiter ∧ t.active = s.active ∧ t.shadow = s.shadow ∧ t.runtimes = s.runtimes ∧
      t.store = s.store ∧ t.clearing = s.clearing ∧ t.exchange = s.exchange ∧ t.ballot = s.ballot ∧
      t.switchPending = s.switchPending ∧ t.tb = s.tb ∧ t.opt = s.opt) ?_ _ _ (by simp)
  intro t x h
  split
  · simpa using h
  · exact h

@[simp] theorem stageAbortClaim_frame (l : LaneNo) :
    (s.stageAbortClaim l).pending = s.pending ∧ (s.stageAbortClaim l).powered = s.powered ∧
    (s.stageAbortClaim l).resetLow = s.resetLow ∧ (s.stageAbortClaim l).members = s.members ∧
    (s.stageAbortClaim l).ports = s.ports ∧ (s.stageAbortClaim l).lanes = s.lanes ∧
    (s.stageAbortClaim l).arbiter = s.arbiter ∧ (s.stageAbortClaim l).active = s.active ∧
    (s.stageAbortClaim l).shadow = s.shadow ∧ (s.stageAbortClaim l).store = s.store ∧
    (s.stageAbortClaim l).clearing = s.clearing ∧ (s.stageAbortClaim l).exchange = s.exchange ∧
    (s.stageAbortClaim l).ballot = s.ballot ∧ (s.stageAbortClaim l).switchPending = s.switchPending ∧
    (s.stageAbortClaim l).tb = s.tb ∧ (s.stageAbortClaim l).ml = s.ml ∧ (s.stageAbortClaim l).opt = s.opt := by unfold State.stageAbortClaim; split <;> simp

@[simp] theorem freezeAborts_frame :
    (s.freezeAborts).pending = s.pending ∧ (s.freezeAborts).powered = s.powered ∧
    (s.freezeAborts).resetLow = s.resetLow ∧ (s.freezeAborts).members = s.members ∧
    (s.freezeAborts).arbiter = s.arbiter ∧ (s.freezeAborts).active = s.active ∧
    (s.freezeAborts).shadow = s.shadow ∧ (s.freezeAborts).store = s.store ∧
    (s.freezeAborts).clearing = s.clearing ∧ (s.freezeAborts).exchange = s.exchange ∧
    (s.freezeAborts).ballot = s.ballot ∧ (s.freezeAborts).switchPending = s.switchPending ∧
    (s.freezeAborts).tb = s.tb ∧ (s.freezeAborts).ml = s.ml ∧ (s.freezeAborts).opt = s.opt := by
  refine foldl_preserves _ (fun t : State => t.pending = s.pending ∧ t.powered = s.powered ∧ t.resetLow = s.resetLow ∧ t.members = s.members ∧
      t.arbiter = s.arbiter ∧ t.active = s.active ∧ t.shadow = s.shadow ∧ t.store = s.store ∧
      t.clearing = s.clearing ∧ t.exchange = s.exchange ∧ t.ballot = s.ballot ∧ t.switchPending = s.switchPending ∧
      t.tb = s.tb ∧ t.ml = s.ml ∧ t.opt = s.opt) ?_ _ _ (by simp)
  intro t x h
  split
  · simpa using h
  · exact h

@[simp] theorem portResetAbort_frame (n : Port) :
    (s.portResetAbort n).pending = s.pending ∧ (s.portResetAbort n).powered = s.powered ∧
    (s.portResetAbort n).resetLow = s.resetLow ∧ (s.portResetAbort n).members = s.members ∧
    (s.portResetAbort n).ports = s.ports ∧ (s.portResetAbort n).arbiter = s.arbiter ∧
    (s.portResetAbort n).active = s.active ∧ (s.portResetAbort n).shadow = s.shadow ∧
    (s.portResetAbort n).store = s.store ∧ (s.portResetAbort n).clearing = s.clearing ∧
    (s.portResetAbort n).exchange = s.exchange ∧ (s.portResetAbort n).ballot = s.ballot ∧
    (s.portResetAbort n).switchPending = s.switchPending ∧ (s.portResetAbort n).tb = s.tb ∧
    (s.portResetAbort n).ml = s.ml ∧ (s.portResetAbort n).opt = s.opt := by unfold State.portResetAbort; split <;> simp

@[simp] theorem publishEntries_frame (r : RecNo) (d : RecordDef) (b : Runtime) (c : Byte) :
    (s.publishEntries r d b c).pending = s.pending ∧ (s.publishEntries r d b c).powered = s.powered ∧
    (s.publishEntries r d b c).resetLow = s.resetLow ∧ (s.publishEntries r d b c).members = s.members ∧
    (s.publishEntries r d b c).lanes = s.lanes ∧ (s.publishEntries r d b c).arbiter = s.arbiter ∧
    (s.publishEntries r d b c).active = s.active ∧ (s.publishEntries r d b c).shadow = s.shadow ∧
    (s.publishEntries r d b c).runtimes = s.runtimes ∧ (s.publishEntries r d b c).store = s.store ∧
    (s.publishEntries r d b c).clearing = s.clearing ∧ (s.publishEntries r d b c).exchange = s.exchange ∧
    (s.publishEntries r d b c).ballot = s.ballot ∧ (s.publishEntries r d b c).switchPending = s.switchPending ∧
    (s.publishEntries r d b c).tb = s.tb ∧ (s.publishEntries r d b c).ml = s.ml ∧
    (s.publishEntries r d b c).opt = s.opt := by unfold State.publishEntries; dsimp only; split <;> split <;> simp

@[simp] theorem missEntries_frame (r : RecNo) (d : RecordDef) (b : Runtime) (c : Byte) :
    (s.missEntries r d b c).pending = s.pending ∧ (s.missEntries r d b c).powered = s.powered ∧
    (s.missEntries r d b c).resetLow = s.resetLow ∧ (s.missEntries r d b c).members = s.members ∧
    (s.missEntries r d b c).lanes = s.lanes ∧ (s.missEntries r d b c).arbiter = s.arbiter ∧
    (s.missEntries r d b c).active = s.active ∧ (s.missEntries r d b c).shadow = s.shadow ∧
    (s.missEntries r d b c).runtimes = s.runtimes ∧ (s.missEntries r d b c).store = s.store ∧
    (s.missEntries r d b c).clearing = s.clearing ∧ (s.missEntries r d b c).exchange = s.exchange ∧
    (s.missEntries r d b c).ballot = s.ballot ∧ (s.missEntries r d b c).switchPending = s.switchPending ∧
    (s.missEntries r d b c).tb = s.tb ∧ (s.missEntries r d b c).ml = s.ml ∧ (s.missEntries r d b c).opt = s.opt := by unfold State.missEntries; dsimp only; split <;> split <;> simp

@[simp] theorem takePoint_frame (r : RecNo) :
    (s.takePoint r).pending = s.pending ∧ (s.takePoint r).powered = s.powered ∧
    (s.takePoint r).resetLow = s.resetLow ∧ (s.takePoint r).members = s.members ∧ (s.takePoint r).lanes = s.lanes ∧
    (s.takePoint r).arbiter = s.arbiter ∧ (s.takePoint r).active = s.active ∧ (s.takePoint r).shadow = s.shadow ∧
    (s.takePoint r).store = s.store ∧ (s.takePoint r).clearing = s.clearing ∧
    (s.takePoint r).exchange = s.exchange ∧ (s.takePoint r).ballot = s.ballot ∧
    (s.takePoint r).switchPending = s.switchPending ∧ (s.takePoint r).tb = s.tb ∧ (s.takePoint r).ml = s.ml ∧
    (s.takePoint r).opt = s.opt := by unfold State.takePoint; split <;> (try split) <;> (try split) <;> simp

@[simp] theorem takePoints_frame :
    (s.takePoints).pending = s.pending ∧ (s.takePoints).powered = s.powered ∧
    (s.takePoints).resetLow = s.resetLow ∧ (s.takePoints).members = s.members ∧ (s.takePoints).lanes = s.lanes ∧
    (s.takePoints).arbiter = s.arbiter ∧ (s.takePoints).active = s.active ∧ (s.takePoints).shadow = s.shadow ∧
    (s.takePoints).store = s.store ∧ (s.takePoints).clearing = s.clearing ∧ (s.takePoints).exchange = s.exchange ∧
    (s.takePoints).ballot = s.ballot ∧ (s.takePoints).switchPending = s.switchPending ∧ (s.takePoints).tb = s.tb ∧
    (s.takePoints).ml = s.ml ∧ (s.takePoints).opt = s.opt := by
  refine foldl_preserves _ (fun t : State => t.pending = s.pending ∧ t.powered = s.powered ∧ t.resetLow = s.resetLow ∧ t.members = s.members ∧
      t.lanes = s.lanes ∧ t.arbiter = s.arbiter ∧ t.active = s.active ∧ t.shadow = s.shadow ∧ t.store = s.store ∧
      t.clearing = s.clearing ∧ t.exchange = s.exchange ∧ t.ballot = s.ballot ∧ t.switchPending = s.switchPending ∧
      t.tb = s.tb ∧ t.ml = s.ml ∧ t.opt = s.opt) ?_ _ _ (by simp)
  intro t x h
  split
  · simpa using h
  · exact h

@[simp] theorem stopTimebase_frame :
    (s.stopTimebase).pending = s.pending ∧ (s.stopTimebase).powered = s.powered ∧
    (s.stopTimebase).resetLow = s.resetLow ∧ (s.stopTimebase).members = s.members ∧
    (s.stopTimebase).ports = s.ports ∧ (s.stopTimebase).lanes = s.lanes ∧ (s.stopTimebase).arbiter = s.arbiter ∧
    (s.stopTimebase).active = s.active ∧ (s.stopTimebase).shadow = s.shadow ∧
    (s.stopTimebase).runtimes = s.runtimes ∧ (s.stopTimebase).store = s.store ∧
    (s.stopTimebase).clearing = s.clearing ∧ (s.stopTimebase).exchange = s.exchange ∧
    (s.stopTimebase).ballot = s.ballot ∧ (s.stopTimebase).switchPending = s.switchPending ∧
    (s.stopTimebase).ml = s.ml ∧ (s.stopTimebase).opt = s.opt := by
  refine ⟨rfl, rfl, rfl, rfl, rfl, rfl, rfl, rfl, rfl, rfl, rfl, rfl, rfl, rfl, rfl, rfl, rfl⟩

@[simp] theorem restartTimebase_frame :
    (s.restartTimebase).pending = s.pending ∧ (s.restartTimebase).powered = s.powered ∧
    (s.restartTimebase).resetLow = s.resetLow ∧ (s.restartTimebase).members = s.members ∧
    (s.restartTimebase).ports = s.ports ∧ (s.restartTimebase).lanes = s.lanes ∧
    (s.restartTimebase).arbiter = s.arbiter ∧ (s.restartTimebase).active = s.active ∧
    (s.restartTimebase).shadow = s.shadow ∧ (s.restartTimebase).runtimes = s.runtimes ∧
    (s.restartTimebase).store = s.store ∧ (s.restartTimebase).clearing = s.clearing ∧
    (s.restartTimebase).exchange = s.exchange ∧ (s.restartTimebase).ballot = s.ballot ∧
    (s.restartTimebase).switchPending = s.switchPending ∧ (s.restartTimebase).ml = s.ml ∧
    (s.restartTimebase).opt = s.opt := by
  refine ⟨rfl, rfl, rfl, rfl, rfl, rfl, rfl, rfl, rfl, rfl, rfl, rfl, rfl, rfl, rfl, rfl, rfl⟩

@[simp] theorem resetTable_frame :
    (s.resetTable).pending = s.pending ∧ (s.resetTable).powered = s.powered ∧
    (s.resetTable).resetLow = s.resetLow ∧ (s.resetTable).members = s.members ∧ (s.resetTable).ports = s.ports ∧
    (s.resetTable).lanes = s.lanes ∧ (s.resetTable).arbiter = s.arbiter ∧ (s.resetTable).store = s.store ∧
    (s.resetTable).clearing = s.clearing ∧ (s.resetTable).exchange = s.exchange ∧
    (s.resetTable).ballot = s.ballot ∧ (s.resetTable).switchPending = s.switchPending ∧ (s.resetTable).tb = s.tb ∧
    (s.resetTable).ml = s.ml ∧ (s.resetTable).opt = s.opt := by
  refine ⟨rfl, rfl, rfl, rfl, rfl, rfl, rfl, rfl, rfl, rfl, rfl, rfl, rfl, rfl, rfl⟩

@[simp] theorem closeBallot_frame (b : OpenBallot) (o : BallotOutcome) (w : Reason) (r : RecNo) :
    (s.closeBallot b o w r).pending = s.pending ∧ (s.closeBallot b o w r).powered = s.powered ∧
    (s.closeBallot b o w r).resetLow = s.resetLow ∧ (s.closeBallot b o w r).members = s.members ∧
    (s.closeBallot b o w r).lanes = s.lanes ∧ (s.closeBallot b o w r).arbiter = s.arbiter ∧
    (s.closeBallot b o w r).active = s.active ∧ (s.closeBallot b o w r).shadow = s.shadow ∧
    (s.closeBallot b o w r).runtimes = s.runtimes ∧ (s.closeBallot b o w r).store = s.store ∧
    (s.closeBallot b o w r).clearing = s.clearing ∧ (s.closeBallot b o w r).exchange = s.exchange ∧
    (s.closeBallot b o w r).switchPending = s.switchPending ∧ (s.closeBallot b o w r).tb = s.tb ∧
    (s.closeBallot b o w r).ml = s.ml ∧ (s.closeBallot b o w r).opt = s.opt := by simp [State.closeBallot]

@[simp] theorem cancelDisallowed_frame (x : ExState) :
    (s.cancelDisallowed x).pending = s.pending ∧ (s.cancelDisallowed x).powered = s.powered ∧
    (s.cancelDisallowed x).resetLow = s.resetLow ∧ (s.cancelDisallowed x).members = s.members ∧
    (s.cancelDisallowed x).lanes = s.lanes ∧ (s.cancelDisallowed x).arbiter = s.arbiter ∧
    (s.cancelDisallowed x).active = s.active ∧ (s.cancelDisallowed x).shadow = s.shadow ∧
    (s.cancelDisallowed x).runtimes = s.runtimes ∧ (s.cancelDisallowed x).store = s.store ∧
    (s.cancelDisallowed x).clearing = s.clearing ∧ (s.cancelDisallowed x).exchange = s.exchange ∧
    (s.cancelDisallowed x).switchPending = s.switchPending ∧ (s.cancelDisallowed x).tb = s.tb ∧
    (s.cancelDisallowed x).ml = s.ml ∧ (s.cancelDisallowed x).opt = s.opt := by unfold State.cancelDisallowed; split <;> (try split) <;> simp

@[simp] theorem changeExchange_frame (x : ExState) :
    (s.changeExchange x).pending = s.pending ∧ (s.changeExchange x).powered = s.powered ∧
    (s.changeExchange x).resetLow = s.resetLow ∧ (s.changeExchange x).members = s.members ∧
    (s.changeExchange x).lanes = s.lanes ∧ (s.changeExchange x).arbiter = s.arbiter ∧
    (s.changeExchange x).active = s.active ∧ (s.changeExchange x).shadow = s.shadow ∧
    (s.changeExchange x).runtimes = s.runtimes ∧ (s.changeExchange x).store = s.store ∧
    (s.changeExchange x).clearing = s.clearing ∧ (s.changeExchange x).switchPending = s.switchPending ∧
    (s.changeExchange x).tb = s.tb ∧ (s.changeExchange x).ml = s.ml ∧ (s.changeExchange x).opt = s.opt := by simp [State.changeExchange]

@[simp] theorem installShadow_frame :
    (s.installShadow).pending = s.pending ∧ (s.installShadow).powered = s.powered ∧
    (s.installShadow).resetLow = s.resetLow ∧ (s.installShadow).members = s.members ∧
    (s.installShadow).ports = s.ports ∧ (s.installShadow).lanes = s.lanes ∧ (s.installShadow).arbiter = s.arbiter ∧
    (s.installShadow).shadow = s.shadow ∧ (s.installShadow).store = s.store ∧
    (s.installShadow).clearing = s.clearing ∧ (s.installShadow).exchange = s.exchange ∧
    (s.installShadow).ballot = s.ballot ∧ (s.installShadow).tb = s.tb ∧ (s.installShadow).ml = s.ml ∧
    (s.installShadow).opt = s.opt := by
  refine ⟨rfl, rfl, rfl, rfl, rfl, rfl, rfl, rfl, rfl, rfl, rfl, rfl, rfl, rfl, rfl⟩

@[simp] theorem applySwitch_frame :
    (s.applySwitch).pending = s.pending ∧ (s.applySwitch).powered = s.powered ∧
    (s.applySwitch).resetLow = s.resetLow ∧ (s.applySwitch).members = s.members ∧
    (s.applySwitch).arbiter = s.arbiter ∧ (s.applySwitch).shadow = s.shadow ∧ (s.applySwitch).store = s.store ∧
    (s.applySwitch).clearing = s.clearing ∧ (s.applySwitch).exchange = s.exchange ∧
    (s.applySwitch).ballot = s.ballot ∧ (s.applySwitch).opt = s.opt := by unfold State.applySwitch; dsimp only; split <;> simp

@[simp] theorem enterConfig_frame :
    (s.enterConfig).pending = s.pending ∧ (s.enterConfig).powered = s.powered ∧
    (s.enterConfig).resetLow = s.resetLow ∧ (s.enterConfig).members = s.members ∧
    (s.enterConfig).arbiter = s.arbiter ∧ (s.enterConfig).shadow = s.shadow ∧ (s.enterConfig).store = s.store ∧
    (s.enterConfig).clearing = s.clearing ∧ (s.enterConfig).opt = s.opt := by unfold State.enterConfig; split <;> simp

@[simp] theorem enterInit_frame :
    (s.enterInit).pending = s.pending ∧ (s.enterInit).powered = s.powered ∧ (s.enterInit).resetLow = s.resetLow ∧
    (s.enterInit).members = s.members ∧ (s.enterInit).lanes = s.lanes ∧ (s.enterInit).arbiter = s.arbiter ∧
    (s.enterInit).store = s.store ∧ (s.enterInit).ballot = s.ballot ∧
    (s.enterInit).switchPending = s.switchPending ∧ (s.enterInit).ml = s.ml ∧ (s.enterInit).opt = s.opt := by simp [State.enterInit]

@[simp] theorem emptyQueues_frame :
    (s.emptyQueues).pending = s.pending ∧ (s.emptyQueues).powered = s.powered ∧
    (s.emptyQueues).resetLow = s.resetLow ∧ (s.emptyQueues).members = s.members ∧ (s.emptyQueues).lanes = s.lanes ∧
    (s.emptyQueues).arbiter = s.arbiter ∧ (s.emptyQueues).active = s.active ∧ (s.emptyQueues).shadow = s.shadow ∧
    (s.emptyQueues).runtimes = s.runtimes ∧ (s.emptyQueues).store = s.store ∧
    (s.emptyQueues).clearing = s.clearing ∧ (s.emptyQueues).exchange = s.exchange ∧
    (s.emptyQueues).ballot = s.ballot ∧ (s.emptyQueues).switchPending = s.switchPending ∧
    (s.emptyQueues).tb = s.tb ∧ (s.emptyQueues).ml = s.ml ∧ (s.emptyQueues).opt = s.opt := by
  refine foldl_preserves _ (fun t : State => t.pending = s.pending ∧ t.powered = s.powered ∧ t.resetLow = s.resetLow ∧ t.members = s.members ∧
      t.lanes = s.lanes ∧ t.arbiter = s.arbiter ∧ t.active = s.active ∧ t.shadow = s.shadow ∧
      t.runtimes = s.runtimes ∧ t.store = s.store ∧ t.clearing = s.clearing ∧ t.exchange = s.exchange ∧
      t.ballot = s.ballot ∧ t.switchPending = s.switchPending ∧ t.tb = s.tb ∧ t.ml = s.ml ∧ t.opt = s.opt) ?_ _ _ (by simp)
  intro t x h
  simpa using h

@[simp] theorem passClear_frame :
    (s.passClear).pending = s.pending ∧ (s.passClear).powered = s.powered ∧ (s.passClear).resetLow = s.resetLow ∧
    (s.passClear).members = s.members ∧ (s.passClear).arbiter = s.arbiter ∧ (s.passClear).store = s.store ∧
    (s.passClear).ballot = s.ballot ∧ (s.passClear).opt = s.opt := by simp [State.passClear]

@[simp] theorem dropSwitch_frame :
    (s.dropSwitch).pending = s.pending ∧ (s.dropSwitch).powered = s.powered ∧
    (s.dropSwitch).resetLow = s.resetLow ∧ (s.dropSwitch).members = s.members ∧ (s.dropSwitch).lanes = s.lanes ∧
    (s.dropSwitch).arbiter = s.arbiter ∧ (s.dropSwitch).active = s.active ∧ (s.dropSwitch).shadow = s.shadow ∧
    (s.dropSwitch).runtimes = s.runtimes ∧ (s.dropSwitch).store = s.store ∧ (s.dropSwitch).clearing = s.clearing ∧
    (s.dropSwitch).exchange = s.exchange ∧ (s.dropSwitch).ballot = s.ballot ∧ (s.dropSwitch).tb = s.tb ∧
    (s.dropSwitch).ml = s.ml ∧ (s.dropSwitch).opt = s.opt := by unfold State.dropSwitch; split <;> simp

@[simp] theorem freezeExchange_frame :
    (s.freezeExchange).pending = s.pending ∧ (s.freezeExchange).powered = s.powered ∧
    (s.freezeExchange).resetLow = s.resetLow ∧ (s.freezeExchange).members = s.members ∧
    (s.freezeExchange).arbiter = s.arbiter ∧ (s.freezeExchange).active = s.active ∧
    (s.freezeExchange).shadow = s.shadow ∧ (s.freezeExchange).store = s.store ∧
    (s.freezeExchange).clearing = s.clearing ∧ (s.freezeExchange).tb = s.tb ∧ (s.freezeExchange).ml = s.ml ∧
    (s.freezeExchange).opt = s.opt := by unfold State.freezeExchange; split <;> simp

@[simp] theorem passEffect_frame (i : Item) :
    (s.passEffect i).pending = s.pending ∧ (s.passEffect i).powered = s.powered ∧
    (s.passEffect i).resetLow = s.resetLow ∧ (s.passEffect i).members = s.members ∧
    (s.passEffect i).arbiter = s.arbiter ∧ (s.passEffect i).store = s.store ∧ (s.passEffect i).opt = s.opt := by unfold State.passEffect; split <;> (try split) <;> simp

@[simp] theorem settleBallot_frame :
    (s.settleBallot).pending = s.pending ∧ (s.settleBallot).powered = s.powered ∧
    (s.settleBallot).resetLow = s.resetLow ∧ (s.settleBallot).members = s.members ∧
    (s.settleBallot).arbiter = s.arbiter ∧ (s.settleBallot).store = s.store ∧ (s.settleBallot).opt = s.opt := by unfold State.settleBallot; split <;> (try split) <;> (try dsimp only) <;> (try split) <;> simp

@[simp] theorem reportDiscipline_frame :
    (s.reportDiscipline).pending = s.pending ∧ (s.reportDiscipline).powered = s.powered ∧
    (s.reportDiscipline).resetLow = s.resetLow ∧ (s.reportDiscipline).members = s.members ∧
    (s.reportDiscipline).arbiter = s.arbiter ∧ (s.reportDiscipline).shadow = s.shadow ∧
    (s.reportDiscipline).store = s.store ∧ (s.reportDiscipline).clearing = s.clearing ∧
    (s.reportDiscipline).opt = s.opt := by unfold State.reportDiscipline; dsimp only; split <;> (try split) <;> (try split) <;> simp

@[simp] theorem changeDiscipline_frame (tb : Timebase) :
    (s.changeDiscipline tb).pending = s.pending ∧ (s.changeDiscipline tb).powered = s.powered ∧
    (s.changeDiscipline tb).resetLow = s.resetLow ∧ (s.changeDiscipline tb).members = s.members ∧
    (s.changeDiscipline tb).arbiter = s.arbiter ∧ (s.changeDiscipline tb).shadow = s.shadow ∧
    (s.changeDiscipline tb).store = s.store ∧ (s.changeDiscipline tb).clearing = s.clearing ∧
    (s.changeDiscipline tb).opt = s.opt := by unfold State.changeDiscipline; split <;> simp

@[simp] theorem cycleStartMove_frame :
    (s.cycleStartMove).pending = s.pending ∧ (s.cycleStartMove).powered = s.powered ∧
    (s.cycleStartMove).resetLow = s.resetLow ∧ (s.cycleStartMove).members = s.members ∧
    (s.cycleStartMove).lanes = s.lanes ∧ (s.cycleStartMove).arbiter = s.arbiter ∧
    (s.cycleStartMove).active = s.active ∧ (s.cycleStartMove).shadow = s.shadow ∧
    (s.cycleStartMove).runtimes = s.runtimes ∧ (s.cycleStartMove).store = s.store ∧
    (s.cycleStartMove).clearing = s.clearing ∧ (s.cycleStartMove).switchPending = s.switchPending ∧
    (s.cycleStartMove).tb = s.tb ∧ (s.cycleStartMove).ml = s.ml ∧ (s.cycleStartMove).opt = s.opt := by unfold State.cycleStartMove; split <;> (try split) <;> simp

@[simp] theorem cycleStartWork_frame :
    (s.cycleStartWork).pending = s.pending ∧ (s.cycleStartWork).powered = s.powered ∧
    (s.cycleStartWork).resetLow = s.resetLow ∧ (s.cycleStartWork).members = s.members ∧
    (s.cycleStartWork).arbiter = s.arbiter ∧ (s.cycleStartWork).shadow = s.shadow ∧
    (s.cycleStartWork).store = s.store ∧ (s.cycleStartWork).clearing = s.clearing ∧ (s.cycleStartWork).opt = s.opt := by unfold State.cycleStartWork; split <;> simp

@[simp] theorem phaseStep_frame (tb : Timebase) :
    (s.phaseStep tb).pending = s.pending ∧ (s.phaseStep tb).powered = s.powered ∧
    (s.phaseStep tb).resetLow = s.resetLow ∧ (s.phaseStep tb).members = s.members ∧
    (s.phaseStep tb).arbiter = s.arbiter ∧ (s.phaseStep tb).shadow = s.shadow ∧ (s.phaseStep tb).store = s.store ∧
    (s.phaseStep tb).clearing = s.clearing ∧ (s.phaseStep tb).opt = s.opt := by simp [State.phaseStep]

@[simp] theorem takePulse_frame :
    (s.takePulse).pending = s.pending ∧ (s.takePulse).powered = s.powered ∧ (s.takePulse).resetLow = s.resetLow ∧
    (s.takePulse).members = s.members ∧ (s.takePulse).arbiter = s.arbiter ∧ (s.takePulse).shadow = s.shadow ∧
    (s.takePulse).store = s.store ∧ (s.takePulse).clearing = s.clearing ∧ (s.takePulse).opt = s.opt := by unfold State.takePulse; split <;> simp

@[simp] theorem setResult_frame (n : Port) (x : Result) :
    (s.setResult n x).pending = s.pending ∧ (s.setResult n x).powered = s.powered ∧
    (s.setResult n x).resetLow = s.resetLow ∧ (s.setResult n x).members = s.members ∧
    (s.setResult n x).lanes = s.lanes ∧ (s.setResult n x).arbiter = s.arbiter ∧
    (s.setResult n x).active = s.active ∧ (s.setResult n x).shadow = s.shadow ∧
    (s.setResult n x).runtimes = s.runtimes ∧ (s.setResult n x).store = s.store ∧
    (s.setResult n x).clearing = s.clearing ∧ (s.setResult n x).exchange = s.exchange ∧
    (s.setResult n x).ballot = s.ballot ∧ (s.setResult n x).switchPending = s.switchPending ∧
    (s.setResult n x).tb = s.tb ∧ (s.setResult n x).ml = s.ml ∧ (s.setResult n x).opt = s.opt := by
  refine ⟨rfl, rfl, rfl, rfl, rfl, rfl, rfl, rfl, rfl, rfl, rfl, rfl, rfl, rfl, rfl, rfl, rfl⟩

@[simp] theorem respond_frame (n : Port) (x : Result) (bs : List Byte) :
    (s.respond n x bs).pending = s.pending ∧ (s.respond n x bs).powered = s.powered ∧
    (s.respond n x bs).resetLow = s.resetLow ∧ (s.respond n x bs).members = s.members ∧
    (s.respond n x bs).lanes = s.lanes ∧ (s.respond n x bs).arbiter = s.arbiter ∧
    (s.respond n x bs).active = s.active ∧ (s.respond n x bs).shadow = s.shadow ∧
    (s.respond n x bs).runtimes = s.runtimes ∧ (s.respond n x bs).store = s.store ∧
    (s.respond n x bs).clearing = s.clearing ∧ (s.respond n x bs).exchange = s.exchange ∧
    (s.respond n x bs).ballot = s.ballot ∧ (s.respond n x bs).switchPending = s.switchPending ∧
    (s.respond n x bs).tb = s.tb ∧ (s.respond n x bs).ml = s.ml ∧ (s.respond n x bs).opt = s.opt := by
  refine ⟨rfl, rfl, rfl, rfl, rfl, rfl, rfl, rfl, rfl, rfl, rfl, rfl, rfl, rfl, rfl, rfl, rfl⟩

@[simp] theorem endFrame_frame (n : Port) (x : Result) (k : Nat) :
    (s.endFrame n x k).pending = s.pending ∧ (s.endFrame n x k).powered = s.powered ∧
    (s.endFrame n x k).resetLow = s.resetLow ∧ (s.endFrame n x k).members = s.members ∧
    (s.endFrame n x k).lanes = s.lanes ∧ (s.endFrame n x k).arbiter = s.arbiter ∧ (s.endFrame n x k).active = s.active ∧
    (s.endFrame n x k).shadow = s.shadow ∧ (s.endFrame n x k).runtimes = s.runtimes ∧
    (s.endFrame n x k).store = s.store ∧ (s.endFrame n x k).clearing = s.clearing ∧
    (s.endFrame n x k).exchange = s.exchange ∧ (s.endFrame n x k).ballot = s.ballot ∧
    (s.endFrame n x k).switchPending = s.switchPending ∧ (s.endFrame n x k).tb = s.tb ∧ (s.endFrame n x k).ml = s.ml ∧
    (s.endFrame n x k).opt = s.opt := by
  refine ⟨rfl, rfl, rfl, rfl, rfl, rfl, rfl, rfl, rfl, rfl, rfl, rfl, rfl, rfl, rfl, rfl, rfl⟩

@[simp] theorem setShadowDef_frame (r : RecNo) (d : Option RecordDef) :
    (s.setShadowDef r d).pending = s.pending ∧ (s.setShadowDef r d).powered = s.powered ∧
    (s.setShadowDef r d).resetLow = s.resetLow ∧ (s.setShadowDef r d).members = s.members ∧
    (s.setShadowDef r d).ports = s.ports ∧ (s.setShadowDef r d).lanes = s.lanes ∧
    (s.setShadowDef r d).arbiter = s.arbiter ∧ (s.setShadowDef r d).active = s.active ∧
    (s.setShadowDef r d).runtimes = s.runtimes ∧ (s.setShadowDef r d).store = s.store ∧
    (s.setShadowDef r d).clearing = s.clearing ∧ (s.setShadowDef r d).exchange = s.exchange ∧
    (s.setShadowDef r d).ballot = s.ballot ∧ (s.setShadowDef r d).switchPending = s.switchPending ∧
    (s.setShadowDef r d).tb = s.tb ∧ (s.setShadowDef r d).ml = s.ml ∧ (s.setShadowDef r d).opt = s.opt := by
  refine ⟨rfl, rfl, rfl, rfl, rfl, rfl, rfl, rfl, rfl, rfl, rfl, rfl, rfl, rfl, rfl, rfl, rfl⟩

@[simp] theorem startStage_frame (n : Port) (r : RecNo) :
    (s.startStage n r).pending = s.pending ∧ (s.startStage n r).powered = s.powered ∧
    (s.startStage n r).resetLow = s.resetLow ∧ (s.startStage n r).members = s.members ∧
    (s.startStage n r).ports = s.ports ∧ (s.startStage n r).arbiter = s.arbiter ∧
    (s.startStage n r).active = s.active ∧ (s.startStage n r).shadow = s.shadow ∧
    (s.startStage n r).store = s.store ∧ (s.startStage n r).clearing = s.clearing ∧
    (s.startStage n r).exchange = s.exchange ∧ (s.startStage n r).ballot = s.ballot ∧
    (s.startStage n r).switchPending = s.switchPending ∧ (s.startStage n r).tb = s.tb ∧
    (s.startStage n r).ml = s.ml ∧ (s.startStage n r).opt = s.opt := by unfold State.startStage; split <;> simp

@[simp] theorem startFetch_frame (n : Port) (r : RecNo) :
    (s.startFetch n r).pending = s.pending ∧ (s.startFetch n r).powered = s.powered ∧
    (s.startFetch n r).resetLow = s.resetLow ∧ (s.startFetch n r).members = s.members ∧
    (s.startFetch n r).arbiter = s.arbiter ∧ (s.startFetch n r).active = s.active ∧
    (s.startFetch n r).shadow = s.shadow ∧ (s.startFetch n r).store = s.store ∧
    (s.startFetch n r).clearing = s.clearing ∧ (s.startFetch n r).exchange = s.exchange ∧
    (s.startFetch n r).ballot = s.ballot ∧ (s.startFetch n r).switchPending = s.switchPending ∧
    (s.startFetch n r).tb = s.tb ∧ (s.startFetch n r).ml = s.ml ∧ (s.startFetch n r).opt = s.opt := by unfold State.startFetch; split <;> simp

@[simp] theorem completeLane_frame (n : Port) :
    (s.completeLane n).pending = s.pending ∧ (s.completeLane n).powered = s.powered ∧
    (s.completeLane n).resetLow = s.resetLow ∧ (s.completeLane n).members = s.members ∧
    (s.completeLane n).arbiter = s.arbiter ∧ (s.completeLane n).active = s.active ∧
    (s.completeLane n).shadow = s.shadow ∧ (s.completeLane n).store = s.store ∧
    (s.completeLane n).clearing = s.clearing ∧ (s.completeLane n).exchange = s.exchange ∧
    (s.completeLane n).ballot = s.ballot ∧ (s.completeLane n).switchPending = s.switchPending ∧
    (s.completeLane n).tb = s.tb ∧ (s.completeLane n).ml = s.ml ∧ (s.completeLane n).opt = s.opt := by unfold State.completeLane; dsimp only; split <;> simp

@[simp] theorem completeLm_frame :
    (s.completeLm).pending = s.pending ∧ (s.completeLm).powered = s.powered ∧
    (s.completeLm).resetLow = s.resetLow ∧ (s.completeLm).members = s.members ∧ (s.completeLm).ports = s.ports ∧
    (s.completeLm).arbiter = s.arbiter ∧ (s.completeLm).active = s.active ∧ (s.completeLm).shadow = s.shadow ∧
    (s.completeLm).store = s.store ∧ (s.completeLm).clearing = s.clearing ∧ (s.completeLm).exchange = s.exchange ∧
    (s.completeLm).ballot = s.ballot ∧ (s.completeLm).switchPending = s.switchPending ∧ (s.completeLm).tb = s.tb ∧
    (s.completeLm).opt = s.opt := by unfold State.completeLm; split <;> simp

@[simp] theorem endIfDone_frame (l : LaneNo) :
    (s.endIfDone l).pending = s.pending ∧ (s.endIfDone l).powered = s.powered ∧
    (s.endIfDone l).resetLow = s.resetLow ∧ (s.endIfDone l).members = s.members ∧
    (s.endIfDone l).arbiter = s.arbiter ∧ (s.endIfDone l).active = s.active ∧
    (s.endIfDone l).shadow = s.shadow ∧ (s.endIfDone l).store = s.store ∧
    (s.endIfDone l).clearing = s.clearing ∧ (s.endIfDone l).exchange = s.exchange ∧
    (s.endIfDone l).ballot = s.ballot ∧ (s.endIfDone l).switchPending = s.switchPending ∧
    (s.endIfDone l).tb = s.tb ∧ (s.endIfDone l).opt = s.opt := by
  unfold State.endIfDone; split
  · split <;> simp
  · simp

@[simp] theorem openBallot_frame (n : Port) (i : Item) :
    (s.openBallot n i).pending = s.pending ∧ (s.openBallot n i).powered = s.powered ∧
    (s.openBallot n i).resetLow = s.resetLow ∧ (s.openBallot n i).members = s.members ∧
    (s.openBallot n i).arbiter = s.arbiter ∧ (s.openBallot n i).store = s.store ∧ (s.openBallot n i).opt = s.opt := by unfold State.openBallot; dsimp only; split <;> simp

@[simp] theorem takeVote_frame (n : Port) (i : Item) (v : Vote) :
    (s.takeVote n i v).pending = s.pending ∧ (s.takeVote n i v).powered = s.powered ∧
    (s.takeVote n i v).resetLow = s.resetLow ∧ (s.takeVote n i v).members = s.members ∧
    (s.takeVote n i v).arbiter = s.arbiter ∧ (s.takeVote n i v).store = s.store ∧ (s.takeVote n i v).opt = s.opt := by unfold State.takeVote; split <;> simp

@[simp] theorem withdrawVote_frame (n : Port) :
    (s.withdrawVote n).pending = s.pending ∧ (s.withdrawVote n).powered = s.powered ∧
    (s.withdrawVote n).resetLow = s.resetLow ∧ (s.withdrawVote n).members = s.members ∧
    (s.withdrawVote n).ports = s.ports ∧ (s.withdrawVote n).lanes = s.lanes ∧
    (s.withdrawVote n).arbiter = s.arbiter ∧ (s.withdrawVote n).active = s.active ∧
    (s.withdrawVote n).shadow = s.shadow ∧ (s.withdrawVote n).runtimes = s.runtimes ∧
    (s.withdrawVote n).store = s.store ∧ (s.withdrawVote n).clearing = s.clearing ∧
    (s.withdrawVote n).exchange = s.exchange ∧ (s.withdrawVote n).switchPending = s.switchPending ∧
    (s.withdrawVote n).tb = s.tb ∧ (s.withdrawVote n).ml = s.ml ∧ (s.withdrawVote n).opt = s.opt := by unfold State.withdrawVote; split <;> (try split) <;> simp

@[simp] theorem resetPort_frame (n : Port) :
    (s.resetPort n).pending = s.pending ∧ (s.resetPort n).powered = s.powered ∧
    (s.resetPort n).resetLow = s.resetLow ∧ (s.resetPort n).members = s.members ∧
    (s.resetPort n).arbiter = s.arbiter ∧ (s.resetPort n).active = s.active ∧ (s.resetPort n).shadow = s.shadow ∧
    (s.resetPort n).store = s.store ∧ (s.resetPort n).clearing = s.clearing ∧
    (s.resetPort n).exchange = s.exchange ∧ (s.resetPort n).switchPending = s.switchPending ∧
    (s.resetPort n).tb = s.tb ∧ (s.resetPort n).ml = s.ml ∧ (s.resetPort n).opt = s.opt := by simp [State.resetPort]

@[simp] theorem resetParts_frame :
    (s.resetParts).pending = s.pending ∧ (s.resetParts).powered = s.powered ∧
    (s.resetParts).resetLow = s.resetLow ∧ (s.resetParts).members = s.members ∧ (s.resetParts).store = s.store ∧
    (s.resetParts).opt = s.opt := by
  refine ⟨rfl, rfl, rfl, rfl, rfl, rfl⟩

@[simp] theorem powerUp_frame (memb : PortSet) :
    (s.powerUp memb).pending = s.pending ∧ (s.powerUp memb).ports = s.ports ∧ (s.powerUp memb).lanes = s.lanes ∧
    (s.powerUp memb).arbiter = s.arbiter ∧ (s.powerUp memb).active = s.active ∧
    (s.powerUp memb).shadow = s.shadow ∧ (s.powerUp memb).runtimes = s.runtimes ∧
    (s.powerUp memb).store = s.store ∧ (s.powerUp memb).clearing = s.clearing ∧
    (s.powerUp memb).exchange = s.exchange ∧ (s.powerUp memb).ballot = s.ballot ∧
    (s.powerUp memb).switchPending = s.switchPending ∧ (s.powerUp memb).tb = s.tb := by
  refine ⟨rfl, rfl, rfl, rfl, rfl, rfl, rfl, rfl, rfl, rfl, rfl, rfl, rfl⟩

@[simp] theorem finishClear_frame :
    (s.finishClear).pending = s.pending ∧ (s.finishClear).powered = s.powered ∧
    (s.finishClear).resetLow = s.resetLow ∧ (s.finishClear).members = s.members ∧ (s.finishClear).lanes = s.lanes ∧
    (s.finishClear).arbiter = s.arbiter ∧ (s.finishClear).active = s.active ∧ (s.finishClear).shadow = s.shadow ∧
    (s.finishClear).runtimes = s.runtimes ∧ (s.finishClear).ballot = s.ballot ∧
    (s.finishClear).switchPending = s.switchPending ∧ (s.finishClear).opt = s.opt := by simp [State.finishClear]

@[simp] theorem answerLine_frame (b : Byte) (bs : List Byte) :
    (s.answerLine b bs).pending = s.pending ∧ (s.answerLine b bs).powered = s.powered ∧
    (s.answerLine b bs).resetLow = s.resetLow ∧ (s.answerLine b bs).members = s.members ∧
    (s.answerLine b bs).ports = s.ports ∧ (s.answerLine b bs).lanes = s.lanes ∧ (s.answerLine b bs).arbiter = s.arbiter ∧
    (s.answerLine b bs).active = s.active ∧ (s.answerLine b bs).shadow = s.shadow ∧
    (s.answerLine b bs).runtimes = s.runtimes ∧ (s.answerLine b bs).store = s.store ∧
    (s.answerLine b bs).clearing = s.clearing ∧ (s.answerLine b bs).exchange = s.exchange ∧
    (s.answerLine b bs).ballot = s.ballot ∧ (s.answerLine b bs).switchPending = s.switchPending ∧
    (s.answerLine b bs).tb = s.tb ∧ (s.answerLine b bs).opt = s.opt := by
  refine ⟨rfl, rfl, rfl, rfl, rfl, rfl, rfl, rfl, rfl, rfl, rfl, rfl, rfl, rfl, rfl, rfl, rfl⟩

@[simp] theorem startPeek_frame (r : RecNo) (o : Byte) :
    (s.startPeek r o).pending = s.pending ∧ (s.startPeek r o).powered = s.powered ∧
    (s.startPeek r o).resetLow = s.resetLow ∧ (s.startPeek r o).members = s.members ∧
    (s.startPeek r o).ports = s.ports ∧ (s.startPeek r o).arbiter = s.arbiter ∧
    (s.startPeek r o).active = s.active ∧ (s.startPeek r o).shadow = s.shadow ∧ (s.startPeek r o).store = s.store ∧
    (s.startPeek r o).clearing = s.clearing ∧ (s.startPeek r o).exchange = s.exchange ∧
    (s.startPeek r o).ballot = s.ballot ∧ (s.startPeek r o).switchPending = s.switchPending ∧
    (s.startPeek r o).tb = s.tb ∧ (s.startPeek r o).opt = s.opt := by unfold State.startPeek; split <;> simp

@[simp] theorem startProgramming_frame (im : Vector Byte 13) (c : Byte) :
    (s.startProgramming im c).pending = s.pending ∧ (s.startProgramming im c).powered = s.powered ∧
    (s.startProgramming im c).resetLow = s.resetLow ∧ (s.startProgramming im c).members = s.members ∧
    (s.startProgramming im c).ports = s.ports ∧ (s.startProgramming im c).lanes = s.lanes ∧
    (s.startProgramming im c).arbiter = s.arbiter ∧ (s.startProgramming im c).active = s.active ∧
    (s.startProgramming im c).shadow = s.shadow ∧ (s.startProgramming im c).runtimes = s.runtimes ∧
    (s.startProgramming im c).store = s.store ∧ (s.startProgramming im c).clearing = s.clearing ∧
    (s.startProgramming im c).exchange = s.exchange ∧ (s.startProgramming im c).ballot = s.ballot ∧
    (s.startProgramming im c).switchPending = s.switchPending ∧ (s.startProgramming im c).tb = s.tb := by
  refine ⟨rfl, rfl, rfl, rfl, rfl, rfl, rfl, rfl, rfl, rfl, rfl, rfl, rfl, rfl, rfl, rfl⟩

@[simp] theorem endProgramming_frame :
    (s.endProgramming).pending = s.pending ∧ (s.endProgramming).powered = s.powered ∧
    (s.endProgramming).resetLow = s.resetLow ∧ (s.endProgramming).members = s.members ∧
    (s.endProgramming).ports = s.ports ∧ (s.endProgramming).lanes = s.lanes ∧
    (s.endProgramming).arbiter = s.arbiter ∧ (s.endProgramming).active = s.active ∧
    (s.endProgramming).shadow = s.shadow ∧ (s.endProgramming).runtimes = s.runtimes ∧
    (s.endProgramming).store = s.store ∧ (s.endProgramming).clearing = s.clearing ∧
    (s.endProgramming).exchange = s.exchange ∧ (s.endProgramming).ballot = s.ballot ∧
    (s.endProgramming).switchPending = s.switchPending ∧ (s.endProgramming).tb = s.tb := by unfold State.endProgramming; dsimp only; split <;> simp

end Sys2Proof.Machine
end

