-- ==== Sys2Proof/Laws/Queue.lean ====
section
/-! SUPPORT. What handing an entry to a queue can do, what it leaves, and that it keeps the law of R59. -/

set_option Elab.async false

namespace Sys2Proof.Machine

/-! ## accept -/

/-- All that a queue can do with an entry it is handed: discard it by the mask, coalesce it, let it join, or lose it. -/
theorem PortState.accept_cases (p : PortState) (e : Entry) :
    (p.masks e = true ∧ p.accept e = p)
      ∨ (∃ r v c k, e = .published r v c k ∧ p.queue.any (Entry.isPublishedOf r) = true
          ∧ p.accept e = { p with queue := p.queue.map (Entry.coalesce r v c) })
      ∨ ((∀ r v c k, e = .published r v c k → p.queue.any (Entry.isPublishedOf r) = false)
          ∧ p.queue.length < Config.queueCapacity ∧ p.accept e = { p with queue := p.queue ++ [e] })
      ∨ ((∀ r v c k, e = .published r v c k → p.queue.any (Entry.isPublishedOf r) = false)
          ∧ Config.queueCapacity ≤ p.queue.length
          ∧ p.accept e = { p with lost := min Config.countMax (p.lost + 1), overflow := true }) := by
  by_cases hm : p.masks e = true
  · exact .inl ⟨hm, by simp [PortState.accept, hm]⟩
  · right
    by_cases hl : p.queue.length < Config.queueCapacity
    · cases e with
      | published r v c k =>
        by_cases ha : p.queue.any (Entry.isPublishedOf r) = true
        · exact .inl ⟨r, v, c, k, rfl, ha, by simp [PortState.accept, hm, ha]⟩
        · refine .inr (.inl ⟨?_, hl, by simp [PortState.accept, PortState.join, hm, ha, hl]⟩)
          intro r' v' c' k' h
          cases h
          simpa using ha
      | _ => exact .inr (.inl ⟨by simp, hl, by simp [PortState.accept, PortState.join, hm, hl]⟩)
    · cases e with
      | published r v c k =>
        by_cases ha : p.queue.any (Entry.isPublishedOf r) = true
        · exact .inl ⟨r, v, c, k, rfl, ha, by simp [PortState.accept, hm, ha]⟩
        · refine .inr (.inr ⟨?_, Nat.le_of_not_lt hl, by simp [PortState.accept, PortState.join, hm, ha, hl]⟩)
          intro r' v' c' k' h
          cases h
          simpa using ha
      | _ => exact .inr (.inr ⟨by simp, Nat.le_of_not_lt hl, by simp [PortState.accept, PortState.join, hm, hl]⟩)

/-- A queue that takes an entry changes only itself, the lost count and OVERFLOW. -/
@[simp] theorem PortState.accept_frame (p : PortState) (e : Entry) :
    (p.accept e).selected = p.selected ∧ (p.accept e).parser = p.parser ∧ (p.accept e).byteCount = p.byteCount ∧
    (p.accept e).summaryOut = p.summaryOut ∧ (p.accept e).responseOut = p.responseOut ∧
    (p.accept e).lastResult = p.lastResult ∧ (p.accept e).writeWindow = p.writeWindow ∧
    (p.accept e).readWindow = p.readWindow ∧ (p.accept e).desc = p.desc ∧ (p.accept e).xfer = p.xfer ∧
    (p.accept e).frame = p.frame ∧ (p.accept e).enables = p.enables ∧ (p.accept e).watermark = p.watermark ∧
    (p.accept e).noteMask = p.noteMask := by
  rcases p.accept_cases e with ⟨_, h⟩ | ⟨_, _, _, _, _, _, h⟩ | ⟨_, _, h⟩ | ⟨_, _, h⟩ <;> simp [h]

/-! ## Coalescing -/

/-- Coalescing keeps every entry's kind and record. -/
theorem Entry.coalesce_isPublishedOf (r q : RecNo) (v : BitVec 16) (c : Byte) (e : Entry) :
    Entry.isPublishedOf q (e.coalesce r v c) = Entry.isPublishedOf q e := by
  cases e with
  | published r' v' c' k => simp only [Entry.coalesce]; split <;> rfl
  | _ => rfl

theorem countP_coalesce (r q : RecNo) (v : BitVec 16) (c : Byte) (l : List Entry) :
    (l.map (Entry.coalesce r v c)).countP (Entry.isPublishedOf q) = l.countP (Entry.isPublishedOf q) := by
  rw [List.countP_map]
  exact List.countP_congr fun e _ => by simp [Entry.coalesce_isPublishedOf]

/-! ## The law of R59 -/

theorem PortState.accept_queueOk (p : PortState) (e : Entry) (h : p.QueueOk) : (p.accept e).QueueOk := by
  obtain ⟨hlen, hone, hlost⟩ := h
  rcases p.accept_cases e with ⟨_, hp⟩ | ⟨r, v, c, k, _, _, hp⟩ | ⟨hno, hroom, hp⟩ | ⟨_, _, hp⟩
  · rw [hp]; exact ⟨hlen, hone, hlost⟩
  · rw [hp]
    refine ⟨by simpa using hlen, fun q => ?_, hlost⟩
    simpa only [countP_coalesce] using hone q
  · rw [hp]
    refine ⟨by simpa using hroom, fun q => ?_, hlost⟩
    simp only [List.countP_append, List.countP_singleton]
    split
    · next hq =>
      cases e with
      | published r v c k =>
        have : r = q := by simpa [Entry.isPublishedOf] using hq
        subst this
        have h0 : p.queue.countP (Entry.isPublishedOf r) = 0 := by
          rw [List.countP_eq_zero]
          intro x hx hpx
          have := hno r v c k rfl
          rw [List.any_eq_false] at this
          exact this x hx hpx
        omega
      | _ => simp [Entry.isPublishedOf] at hq
    · simpa using hone q
  · rw [hp]
    exact ⟨hlen, hone, Nat.min_le_left _ _⟩

/-- Taking the head keeps the law. -/
theorem queueOk_tail {p : PortState} {e : Entry} {rest : List Entry} (h : p.QueueOk) (hq : p.queue = e :: rest) :
    ({ p with queue := rest } : PortState).QueueOk := by
  obtain ⟨hlen, hone, hlost⟩ := h
  rw [hq] at hlen hone
  refine ⟨by simp at hlen ⊢; omega, fun q => ?_, hlost⟩
  have := hone q
  rw [List.countP_cons] at this
  exact Nat.le_trans (Nat.le_add_right _ _) this

/-- An emptied queue keeps the law. -/
theorem queueOk_empty (p : PortState) (hq : p.queue = []) (hl : p.lost ≤ Config.countMax) : p.QueueOk := by
  refine ⟨by simp [hq], fun q => by simp [hq], hl⟩

/-! ## Handing to several queues -/

variable (s : State)

/-- A change of one port that keeps its law keeps the law of all. -/
theorem modPort_queuesOk (n : Port) (f : PortState → PortState) (h : s.QueuesOk) (hf : (f (s.port n)).QueueOk) :
    (s.modPort n f).QueuesOk := by
  intro m
  rw [modPort_port]
  split
  · exact hf
  · exact h m

theorem hand_queuesOk (n : Port) (e : Entry) (h : s.QueuesOk) : (s.hand n e).QueuesOk :=
  modPort_queuesOk s n _ h (PortState.accept_queueOk _ e (h n))

theorem handAll_queuesOk (ps : PortSet) (e : Entry) (h : s.QueuesOk) : (s.handAll ps e).QueuesOk := by
  refine foldl_preserves _ State.QueuesOk (fun t n ht => ?_) _ _ h
  split
  · exact hand_queuesOk t n e ht
  · exact ht

theorem ballotNote_queuesOk (i : Item) (o : BallotOutcome) (h : s.QueuesOk) : (s.ballotNote i o).QueuesOk :=
  handAll_queuesOk s _ _ h

theorem switchNote_queuesOk (d : SwitchDetail) (h : s.QueuesOk) : (s.switchNote d).QueuesOk := handAll_queuesOk s _ _ h

theorem exchangeNote_queuesOk (h : s.QueuesOk) : s.exchangeNote.QueuesOk := handAll_queuesOk s _ _ h

theorem timebaseNote_queuesOk (h : s.QueuesOk) : s.timebaseNote.QueuesOk := handAll_queuesOk s _ _ h

/-- States with the same ports share the law. -/
theorem queuesOk_congr {s t : State} (h : t.ports = s.ports) (hs : s.QueuesOk) : t.QueuesOk := by
  intro n
  have := hs n
  simp only [State.port, h] at this ⊢
  exact this

/-- What a set of ports is handed: each port of the set accepts the entry, every other port stays. -/
theorem handAll_port (ps : PortSet) (e : Entry) (n : Port) :
    (s.handAll ps e).port n = if ps.getLsbD n.val then (s.port n).accept e else s.port n := by
  have key : ∀ m : Port, ∀ t : State,
      (if ps.getLsbD m.val then t.hand m e else t).port n
        = if m = n ∧ ps.getLsbD m.val = true then (t.port n).accept e else t.port n := by
    intro m t
    split
    · next hp =>
      simp only [State.hand, modPort_port, hp, and_true, eq_comm (a := n)]
      split
      · next hmn => subst hmn; rfl
      · rfl
    · next hp => rw [if_neg (fun h => hp h.2)]
  simp only [State.handAll, allPorts, List.foldl_cons, List.foldl_nil, key]
  revert n
  intro n key
  fin_cases n <;> simp

end Sys2Proof.Machine
end

