-- ==== Sys2Proof/Laws/Equations.lean ====
section
/-! SUPPORT. Shared operations as one record update each, and what it takes for two states to hold the same ports, lanes and
runtimes. -/

namespace Sys2Proof.Machine

variable (s : State)

/-- States that agree in every field are equal. -/
theorem State.ext {s t : State} (h0 : s.pending = t.pending) (h1 : s.powered = t.powered)
    (h2 : s.resetLow = t.resetLow) (h3 : s.members = t.members) (h4 : s.ports = t.ports) (h5 : s.lanes = t.lanes)
    (h6 : s.arbiter = t.arbiter) (h7 : s.active = t.active) (h8 : s.shadow = t.shadow) (h9 : s.runtimes = t.runtimes)
    (h10 : s.store = t.store) (h11 : s.clearing = t.clearing) (h12 : s.exchange = t.exchange)
    (h13 : s.ballot = t.ballot) (h14 : s.switchPending = t.switchPending) (h15 : s.tb = t.tb) (h16 : s.ml = t.ml)
    (h17 : s.opt = t.opt) : s = t := by
  cases s; cases t; simp_all

/-- The same port states give the same ports. -/
theorem ports_ext {v w : Vector PortState 4} (h : ∀ n : Port, v[n] = w[n]) : v = w :=
  Vector.ext fun i hi => h ⟨i, hi⟩

/-- The same lanes give the same vector of lanes. -/
theorem lanes_ext {v w : Vector Lane 5} (h : ∀ l : LaneNo, v[l] = w[l]) : v = w :=
  Vector.ext fun i hi => h ⟨i, hi⟩

/-- The same runtimes give the same vector of runtimes. -/
theorem runtimes_ext {v w : Vector (Option Runtime) 128} (h : ∀ r : RecNo, v[r] = w[r]) : v = w :=
  Vector.ext fun i hi => h ⟨i, hi⟩

/-- Reading an entry of a vector given as a function. -/
theorem getElem_ofFn_fin {α : Type} {k : Nat} (f : Fin k → α) (i : Fin k) : (Vector.ofFn f)[i] = f i := by
  simp

/-- A change of one port sets that port. -/
theorem modPort_eq_withPort (n : Port) (f : PortState → PortState) : s.modPort n f = s.withPort n (f (s.port n)) := rfl

/-- Two changes of one port are one. -/
theorem modPort_modPort (n : Port) (f g : PortState → PortState) : (s.modPort n f).modPort n g = s.modPort n (g ∘ f) := by
  simp [State.modPort]

/-- An entry handed to a set of ports. -/
theorem handAll_eq (ps : PortSet) (e : Entry) :
    s.handAll ps e
      = { s with ports := Vector.ofFn fun n => if ps.getLsbD n.val = true then (s.port n).accept e else s.port n } := by
  apply State.ext <;> try (simp; done)
  refine ports_ext fun n => (handAll_port s ps e n).trans ?_
  exact (getElem_ofFn_fin (fun n : Port => if ps.getLsbD n.val = true then (s.port n).accept e else s.port n) n).symm

/-- Every port is in the set of all four. -/
theorem everyPort_getLsbD (n : Port) : everyPort.getLsbD n.val = true := by
  revert n; decide

/-- An entry handed to the four queues. -/
theorem handAll_everyPort (e : Entry) : s.handAll everyPort e = s.notedAll e := by
  rw [handAll_eq]
  simp [State.notedAll, everyPort_getLsbD]

theorem switchNote_eq (d : SwitchDetail) : s.switchNote d = s.notedAll (.switch s.tb.cycleNumber d) := handAll_everyPort s _

theorem exchangeNote_eq : s.exchangeNote = s.notedAll (.exchange s.tb.cycleNumber s.exchange) := handAll_everyPort s _

theorem timebaseNote_eq : s.timebaseNote = s.notedAll (.timebase s.tb.cycleNumber s.tb.discipline) := handAll_everyPort s _

/-- A note handed to the four queues reaches each of them. -/
@[simp] theorem notedAll_port (e : Entry) (n : Port) : (s.notedAll e).port n = (s.port n).accept e :=
  getElem_ofFn_fin (fun n : Port => (s.port n).accept e) n

end Sys2Proof.Machine
end

