-- ==== Sys2Proof/Laws/Runtime.lean ====
section
/-! SUPPORT. What the claims, a rotation and a point's outcome do to the buffers and the publication fields of a runtime, and that
they keep the laws of R22, R32, R44 and R47. -/

set_option Elab.async false

namespace Sys2Proof.Machine

/-- A vector of three elements, spelled out. -/
theorem vector3_eq {α : Type} (v : Vector α 3) : v = #v[v[0], v[1], v[2]] := by
  apply Vector.ext
  intro i hi
  match i, hi with
  | 0, _ => rfl
  | 1, _ => rfl
  | 2, _ => rfl

/-- The fields that the law of R22 and R32 reads. -/
theorem Runtime.buffersOk_congr (a : Runtime) {b : Runtime} (hr : b.roles = a.roles) (hp : b.pins = a.pins)
    (hs : b.staging = .blocked ↔ a.staging = .blocked) (hw : b.stageWaiting = true → a.stageWaiting = true)
    (h : a.BuffersOk) : b.BuffersOk := by
  obtain ⟨h1, h2, h3, h4, h5, h6⟩ := h
  unfold Runtime.BuffersOk
  rw [hr, hp]
  exact ⟨h1, h2, by rw [hs]; exact h3, h4, fun e => h5 (hs.1 e), fun e => hs.2 (h6 (hw e))⟩

/-- The law, spelled out over the three buffers. -/
theorem Runtime.buffersOk_literal (v : BitVec 16) (hl : Health) (mc : Nat) (lc : Byte) (st : Staging) (r0 r1 r2 : Role)
    (p0 p1 p2 : Nat) (w : Bool) :
    Runtime.BuffersOk ⟨v, hl, mc, lc, st, #v[r0, r1, r2], #v[p0, p1, p2], w⟩ ↔
      [r0, r1, r2].count .pub = 1 ∧ [r0, r1, r2].count .stg ≤ 1 ∧ ([r0, r1, r2].count .stg = 0 ↔ st = .blocked)
        ∧ ((r0 = .stg → p0 = 0) ∧ (r1 = .stg → p1 = 0) ∧ (r2 = .stg → p2 = 0))
        ∧ (st = .blocked → (r0 = .retired → 0 < p0) ∧ (r1 = .retired → 0 < p1) ∧ (r2 = .retired → 0 < p2))
        ∧ (w = true → st = .blocked) := by
  have hc : ∀ x : Role, (#v[r0, r1, r2] : Vector Role 3).count x = [r0, r1, r2].count x :=
    fun x => (Vector.count_toList (xs := #v[r0, r1, r2]) (a := x)).symm
  unfold Runtime.BuffersOk
  simp only [hc]
  constructor
  · intro ⟨h1, h2, h3, h4, h5, h6⟩
    exact ⟨h1, h2, h3, ⟨h4 0, h4 1, h4 2⟩, fun e => ⟨h5 e 0, h5 e 1, h5 e 2⟩, h6⟩
  · intro ⟨h1, h2, h3, h4, h5, h6⟩
    refine ⟨h1, h2, h3, fun b => ?_, fun e b => ?_, h6⟩
    · fin_cases b
      · exact h4.1
      · exact h4.2.1
      · exact h4.2.2
    · fin_cases b
      · exact (h5 e).1
      · exact (h5 e).2.1
      · exact (h5 e).2.2

/-- One PUB buffer and at most one STG buffer leave these roles. -/
theorem roles_cases (r0 r1 r2 : Role) (h1 : [r0, r1, r2].count .pub = 1) (h2 : [r0, r1, r2].count .stg ≤ 1) :
    ([r0, r1, r2].count .stg = 1 ∧ [r0, r1, r2].count .retired = 1)
      ∨ (r0 = .pub ∧ r1 = .retired ∧ r2 = .retired) ∨ (r0 = .retired ∧ r1 = .pub ∧ r2 = .retired)
      ∨ (r0 = .retired ∧ r1 = .retired ∧ r2 = .pub) := by
  cases r0 <;> cases r1 <;> cases r2 <;> revert h1 h2 <;> decide

theorem Runtime.initial_buffersOk : Runtime.initial.BuffersOk := by
  unfold Runtime.BuffersOk
  decide

/-- A stage-start claim keeps the law (R26). -/
theorem Runtime.stageStart_buffersOk (rt : Runtime) (h : rt.BuffersOk) : rt.stageStart.BuffersOk := by
  unfold Runtime.stageStart
  split
  · next e => exact Runtime.buffersOk_congr rt rfl rfl (by simp [e]) (fun x => x) h
  · next e => exact Runtime.buffersOk_congr rt rfl rfl (by simp [e]) (fun x => x) h
  · next e =>
    obtain ⟨h1, h2, h3, h4, h5, _⟩ := h
    exact ⟨h1, h2, h3, h4, h5, fun _ => e⟩
  · exact h

/-- A stage-end claim keeps the law (R27). -/
theorem Runtime.stageEnd_buffersOk (rt : Runtime) (h : rt.BuffersOk) : rt.stageEnd.BuffersOk := by
  unfold Runtime.stageEnd
  split
  · next e => exact Runtime.buffersOk_congr rt rfl rfl (by simp [e]) (fun x => x) h
  · exact h

/-- A stage-abort claim keeps the law (R28). -/
theorem Runtime.abortActive_buffersOk (rt : Runtime) (h : rt.BuffersOk) : rt.abortActive.BuffersOk := by
  unfold Runtime.abortActive
  split
  · next e => exact Runtime.buffersOk_congr rt rfl rfl (by simp [e]) (fun x => x) h
  · exact h

theorem Runtime.abortWaiting_buffersOk (rt : Runtime) (h : rt.BuffersOk) : rt.abortWaiting.BuffersOk :=
  Runtime.buffersOk_congr rt rfl rfl Iff.rfl (fun x => by simp [Runtime.abortWaiting] at x) h

/-- The buffer found as PUB has that role where some buffer has it (R22). -/
theorem pub_found (a b c : Role) (h : [a, b, c].count .pub = 1) :
    (#v[a, b, c] : Vector Role 3)[(allBuffers.find? fun x => (#v[a, b, c] : Vector Role 3)[x] = .pub).getD 0] = .pub := by
  cases a <;> cases b <;> cases c <;> first | rfl | (exfalso; revert h; decide)

theorem Runtime.pubBuf_role (rt : Runtime) (h : rt.BuffersOk) : rt.roles[rt.pubBuf] = .pub := by
  obtain ⟨v, hl, mc, lc, st, roles, pins, w⟩ := rt
  replace h := h.1
  obtain ⟨a, b, c, rfl⟩ : ∃ a b c, roles = #v[a, b, c] := ⟨_, _, _, vector3_eq roles⟩
  exact pub_found a b c ((Vector.count_toList (xs := #v[a, b, c]) (a := Role.pub)).trans h)

/-- The buffer found as STG has that role. -/
theorem Runtime.stgBuf_role (rt : Runtime) (b : Buf) (h : rt.stgBuf = some b) : rt.roles[b] = .stg := by
  have := List.find?_some h
  simpa using this

/-- One PUB among three roles stands at one place. -/
theorem pub_place (x y z : Role) (b c : Buf) (h : [x, y, z].count .pub = 1) :
    #v[x, y, z][b] = .pub → #v[x, y, z][c] = .pub → c = b := by
  revert b c; cases x <;> cases y <;> cases z <;> revert h <;> decide

/-- One STG at most among three roles stands at one place. -/
theorem stg_place (x y z : Role) (b c : Buf) (h : [x, y, z].count .stg ≤ 1) :
    #v[x, y, z][b] = .stg → #v[x, y, z][c] = .stg → c = b := by
  revert b c; cases x <;> cases y <;> cases z <;> revert h <;> decide

/-- The buffer that is PUB is the one `pubBuf` finds. -/
theorem Runtime.pubBuf_eq (rt : Runtime) (b : Buf) (h : rt.BuffersOk) (hb : rt.roles[b] = .pub) : rt.pubBuf = b := by
  have key : ∀ v : Vector Role 3, v.count .pub = 1 → ∀ c : Buf, v[b] = .pub → v[c] = .pub → c = b := by
    intro v hv c
    rw [vector3_eq v] at hv ⊢
    exact pub_place _ _ _ b c ((Vector.count_toList (xs := #v[v[0], v[1], v[2]]) (a := Role.pub)).trans hv)
  exact key rt.roles h.1 rt.pubBuf hb (rt.pubBuf_role h)

/-- The buffer that is STG is the one `stgBuf` finds. -/
theorem Runtime.stgBuf_eq (rt : Runtime) (b : Buf) (h : rt.BuffersOk) (hb : rt.roles[b] = .stg) : rt.stgBuf = some b := by
  have key : ∀ v : Vector Role 3, v.count .stg ≤ 1 → ∀ c : Buf, v[b] = .stg → v[c] = .stg → c = b := by
    intro v hv c
    rw [vector3_eq v] at hv ⊢
    exact stg_place _ _ _ b c (le_of_eq_of_le (Vector.count_toList (xs := #v[v[0], v[1], v[2]]) (a := Role.stg)) hv)
  cases hc : rt.stgBuf with
  | none =>
    have hm : ∀ x : Buf, x ∈ allBuffers := by decide
    have := List.find?_eq_none.1 hc b (hm b)
    simp [hb] at this
  | some c => exact congrArg some (key rt.roles h.2.1 c hb (rt.stgBuf_role c hc))

/-- A pin claim keeps the law (R29). -/
theorem Runtime.pin_buffersOk (rt : Runtime) (h : rt.BuffersOk) : rt.pin.BuffersOk := by
  have hp := rt.pubBuf_role h
  obtain ⟨h1, h2, h3, h4, h5, h6⟩ := h
  refine ⟨h1, h2, h3, fun b hb => ?_, fun e b hb => ?_, h6⟩
  · have hne : (rt.pubBuf : Nat) ≠ b := by
      intro e
      have : rt.pubBuf = b := Fin.ext e
      subst this
      simp only [Runtime.pin] at hb
      rw [hp] at hb
      cases hb
    simp only [Runtime.pin]
    exact (Vector.getElem_set_ne _ _ hne).trans (h4 b hb)
  · have hne : (rt.pubBuf : Nat) ≠ b := by
      intro e'
      have : rt.pubBuf = b := Fin.ext e'
      subst this
      simp only [Runtime.pin] at hb
      rw [hp] at hb
      cases hb
    simp only [Runtime.pin]
    exact lt_of_lt_of_eq (h5 e b hb) (Vector.getElem_set_ne _ _ hne).symm

/-- An unpin claim keeps the law (R30, R34). -/
theorem Runtime.unpin_buffersOk (rt : Runtime) (b : Buf) (h : rt.BuffersOk) : (rt.unpin b).BuffersOk := by
  by_cases hf : rt.unpinFrees b = true
  · obtain ⟨v, hl, mc, lc, st, roles, pins, w⟩ := rt
    obtain ⟨r0, r1, r2, rfl⟩ : ∃ a b c, roles = #v[a, b, c] := ⟨_, _, _, vector3_eq roles⟩
    obtain ⟨p0, p1, p2, rfl⟩ : ∃ a b c, pins = #v[a, b, c] := ⟨_, _, _, vector3_eq pins⟩
    rw [Runtime.buffersOk_literal] at h
    obtain ⟨h1, h2, h3, _, h5, _⟩ := h
    simp only [Runtime.unpinFrees, Bool.and_eq_true, decide_eq_true_eq] at hf
    obtain ⟨⟨rfl, hret⟩, hz⟩ := hf
    have h0 : [r0, r1, r2].count .stg = 0 := h3.2 rfl
    have h5 := h5 rfl
    rcases roles_cases r0 r1 r2 h1 h2 with ⟨hs, _⟩ | ⟨rfl, rfl, rfl⟩ | ⟨rfl, rfl, rfl⟩ | ⟨rfl, rfl, rfl⟩
    · omega
    all_goals
      fin_cases b <;> simp at hret hz h5 <;>
        simp [Runtime.unpin, Runtime.unpinFrees, Runtime.leaveBlocked, hz, Runtime.buffersOk_literal] <;>
        cases w <;> simp
  · obtain ⟨h1, h2, h3, h4, h5, h6⟩ := h
    have he : rt.unpin b = { rt with pins := rt.pins.set b (rt.pins[b] - 1) } := by simp [Runtime.unpin, hf]
    rw [he]
    refine ⟨h1, h2, h3, fun c hc => ?_, fun e c hc => ?_, h6⟩
    · have := h4 c hc
      by_cases hbc : b = c
      · subst hbc; simp [this]
      · exact (Vector.getElem_set_ne b.isLt c.isLt (fun x => hbc (Fin.ext x))).trans this
    · have hpos := h5 e c hc
      by_cases hbc : b = c
      · subst hbc
        simp only [Runtime.unpinFrees, Bool.and_eq_true, decide_eq_true_eq, not_and] at hf
        have := hf ⟨e, hc⟩
        simp only [Fin.getElem_fin, Vector.getElem_set_self]
        exact Nat.pos_of_ne_zero this
      · exact lt_of_lt_of_eq hpos (Vector.getElem_set_ne b.isLt c.isLt (fun x => hbc (Fin.ext x))).symm

/-- A rotation keeps the law (R31, R32). -/
theorem Runtime.rotate_buffersOk (rt : Runtime) (h : rt.BuffersOk) (hr : rt.staging = .ready) : rt.rotate.BuffersOk := by
  obtain ⟨v, hl, mc, lc, st, roles, pins, w⟩ := rt
  obtain ⟨r0, r1, r2, rfl⟩ : ∃ a b c, roles = #v[a, b, c] := ⟨_, _, _, vector3_eq roles⟩
  obtain ⟨p0, p1, p2, rfl⟩ : ∃ a b c, pins = #v[a, b, c] := ⟨_, _, _, vector3_eq pins⟩
  dsimp only at hr
  subst hr
  rw [Runtime.buffersOk_literal] at h
  obtain ⟨h1, h2, h3, h4, _, h6⟩ := h
  have h0 : [r0, r1, r2].count .stg ≠ 0 := fun e => by cases h3.1 e
  have hw : w = false := by
    cases w
    · rfl
    · cases h6 rfl
  subst hw
  clear h3 h6
  cases r0 <;> cases r1 <;> cases r2 <;>
    first
      | (exfalso; revert h1; decide)
      | (exfalso; revert h2; decide)
      | (exfalso; revert h0; decide)
      | skip
  all_goals
    simp only [true_implies, false_implies, reduceCtorEq, true_and, and_true] at h4
    subst h4
    (try cases p0) <;> (try cases p1) <;> (try cases p2) <;>
      simp [Runtime.rotate, Runtime.stgBuf, Runtime.nextStg, Runtime.pubBuf, Runtime.turnedRoles, allBuffers,
        Runtime.buffersOk_literal]

/-- A publication keeps the law (R43). -/
theorem Runtime.publish_buffersOk (rt : Runtime) (c : Byte) (h : rt.BuffersOk) (hr : rt.staging = .ready) :
    (rt.publish c).BuffersOk :=
  Runtime.buffersOk_congr rt.rotate rfl rfl Iff.rfl (fun x => x) (rt.rotate_buffersOk h hr)

/-- A miss keeps the law (R33). -/
theorem Runtime.miss_buffersOk (rt : Runtime) (limit : Nat) (h : rt.BuffersOk) : (rt.miss limit).BuffersOk :=
  Runtime.buffersOk_congr rt rfl rfl Iff.rfl (fun x => x) h

/-! ## Versions and misses (R44, R47) -/

/-- The version 0 never follows a publication (R44). -/
theorem nextVersion_ne_zero (v : BitVec 16) : nextVersion v ≠ 0 := by
  unfold nextVersion
  split
  · decide
  · next h =>
    intro e
    apply h
    have := congrArg BitVec.toNat e
    rw [BitVec.toNat_add] at this
    apply BitVec.eq_of_toNat_eq
    have hv := v.isLt
    simp at this ⊢
    omega

theorem Runtime.initial_countsOk (limit : Nat) : Runtime.initial.CountsOk limit :=
  ⟨⟨fun _ => rfl, fun _ => rfl⟩, Nat.zero_le _, fun h => (by cases h), fun _ => rfl⟩

/-- A publication keeps the laws of R44 and R47. -/
theorem Runtime.publish_countsOk (rt : Runtime) (c : Byte) (limit : Nat) (hl : 1 ≤ limit) :
    (rt.publish c).CountsOk limit := by
  refine ⟨⟨fun h => absurd h (nextVersion_ne_zero _), fun h => by cases h⟩, Nat.zero_le _, fun _ => ?_, fun h => by cases h⟩
  exact hl

/-- A miss keeps the laws of R44 and R47. -/
theorem Runtime.miss_countsOk (rt : Runtime) (limit : Nat) (h : rt.CountsOk limit)
    (hu : rt.health ≠ .unpublished) : (rt.miss limit).CountsOk limit := by
  obtain ⟨h1, h2, h3, _⟩ := h
  have hv : rt.version ≠ 0 := fun e => hu (h1.1 e)
  unfold Runtime.miss Runtime.CountsOk
  dsimp only
  refine ⟨⟨fun e => absurd e hv, fun e => ?_⟩, Nat.min_le_left _ _, fun e => ?_, fun e => ?_⟩
  · split at e
    · cases e
    · exact absurd e hu
  · split at e
    · cases e
    · next hd =>
      have hlt := h3 e
      have hne : rt.raisedMisses ≠ limit := fun x => hd (by simp [Runtime.missDeclares, e, x])
      unfold Runtime.raisedMisses at hne ⊢
      simp only [Config.missMax] at *
      omega
  · split at e
    · cases e
    · exact absurd e hu

/-- A kept record's runtime at a switch keeps the laws (R131). -/
theorem Runtime.kept_countsOk (rt : Runtime) (limit limit' : Nat) (hl : 1 ≤ limit') (h : rt.CountsOk limit) :
    ({ rt with missCount := 0 } : Runtime).CountsOk limit' :=
  ⟨h.1, Nat.zero_le _, fun _ => hl, fun _ => rfl⟩

/-- The claims leave version, health, miss count and last cycle (R54). -/
theorem Runtime.countsOk_congr (a : Runtime) {b : Runtime} (limit : Nat) (hv : b.version = a.version)
    (hh : b.health = a.health) (hm : b.missCount = a.missCount) (h : a.CountsOk limit) : b.CountsOk limit := by
  unfold Runtime.CountsOk
  rw [hv, hh, hm]
  exact h

theorem Runtime.claims_frame (rt : Runtime) (b : Buf) :
    (rt.stageStart.version = rt.version ∧ rt.stageStart.health = rt.health ∧ rt.stageStart.missCount = rt.missCount
        ∧ rt.stageStart.lastCycle = rt.lastCycle)
      ∧ (rt.stageEnd.version = rt.version ∧ rt.stageEnd.health = rt.health ∧ rt.stageEnd.missCount = rt.missCount
        ∧ rt.stageEnd.lastCycle = rt.lastCycle)
      ∧ (rt.abortActive.version = rt.version ∧ rt.abortActive.health = rt.health
        ∧ rt.abortActive.missCount = rt.missCount ∧ rt.abortActive.lastCycle = rt.lastCycle)
      ∧ ((rt.unpin b).version = rt.version ∧ (rt.unpin b).health = rt.health ∧ (rt.unpin b).missCount = rt.missCount
        ∧ (rt.unpin b).lastCycle = rt.lastCycle) := by
  refine ⟨?_, ?_, ?_, ?_⟩
  · unfold Runtime.stageStart; split <;> exact ⟨rfl, rfl, rfl, rfl⟩
  · unfold Runtime.stageEnd; split <;> exact ⟨rfl, rfl, rfl, rfl⟩
  · unfold Runtime.abortActive; split <;> exact ⟨rfl, rfl, rfl, rfl⟩
  · unfold Runtime.unpin; dsimp only; split <;> exact ⟨rfl, rfl, rfl, rfl⟩

end Sys2Proof.Machine
end

