-- ==== Sys2Proof/Laws/Lanes.lean ====
section
/-! SUPPORT. What the shared operations of the Transfer Engine leave in a lane, a runtime and a port, said once for each. -/

namespace Sys2Proof.Machine

variable (s : State)

/-! ## Ends of transfers -/

theorem endTransfer_lane (k l : LaneNo) (x : TransferResult) :
    (s.endTransfer l x).lane k = if k = l then ⟨.idle, x⟩ else s.lane k := setLane_lane s k l _

theorem setXfer_port (m n : Port) : (s.setXfer n).port m = if m = n then { s.port n with xfer := true } else s.port m :=
  modPort_port s m n _

theorem setDescState_port (m n : Port) (d : DescState) :
    (s.setDescState n d).port m = if m = n then { s.port n with desc := { (s.port n).desc with state := d } } else s.port m :=
  modPort_port s m n _

theorem modRuntime_runtime (q r : RecNo) (f : Runtime → Runtime) :
    (s.modRuntime r f).runtime q = if q = r then (s.runtime r).map f else s.runtime q := by
  unfold State.modRuntime
  split
  · next rt h => rw [setRuntime_runtime, h]; rfl
  · next h =>
    split
    · next e => subst e; rw [h]; rfl
    · rfl

/-! ## Aborts -/

/-- An abort leaves the lane IDLE with its result and every other lane as it was (R92, R93). -/
theorem abortLane_lane (k l : LaneNo) (x : TransferResult) :
    (s.abortLane l x).lane k = if k = l then ⟨.idle, x⟩ else s.lane k := by
  have h : (s.abortLane l x).lanes = (s.endTransfer l x).lanes := by
    unfold State.abortLane
    dsimp only
    split
    · split <;> simp
    · simp
  have : (s.abortLane l x).lane k = (s.endTransfer l x).lane k := by simp only [State.lane, h]
  rw [this, endTransfer_lane]

/-- The lanes after the aborts of a switch or of CLEAR: every lane whose record the condition takes is IDLE with the result, every
other lane is as it was (R92, R93). -/
theorem abortLanes_lane (x : TransferResult) (on : RecNo → Bool) (k : LaneNo) :
    (s.abortLanes x on).lane k = if (s.lane k).hold.record.any on then ⟨.idle, x⟩ else s.lane k := by
  have key : ∀ l : LaneNo, ∀ t : State,
      (if (t.lane l).hold.record.any on then t.abortLane l x else t).lane k
        = if k = l ∧ (t.lane l).hold.record.any on = true then ⟨.idle, x⟩ else t.lane k := by
    intro l t
    split
    · next h => rw [abortLane_lane]; simp only [h, and_true]
    · next h => rw [if_neg (fun e => h e.2)]
  have step : ∀ l : LaneNo, l ≠ k → ∀ t : State,
      (if (t.lane l).hold.record.any on then t.abortLane l x else t).lane k = t.lane k := by
    intro l hl t
    rw [key, if_neg (fun e => hl e.1.symm)]
  have self : ∀ t : State, (if (t.lane k).hold.record.any on then t.abortLane k x else t).lane k
      = if (t.lane k).hold.record.any on then ⟨.idle, x⟩ else t.lane k := by
    intro t
    rw [key]
    simp only [true_and]
  simp only [State.abortLanes, allLanes, List.foldl_cons, List.foldl_nil]
  revert step self
  clear key
  intro step self
  match k with
  | 0 => rw [step 4 (by decide), step 3 (by decide), step 2 (by decide), step 1 (by decide), self]
  | 1 => rw [step 4 (by decide), step 3 (by decide), step 2 (by decide), self, step 0 (by decide)]
  | 2 => rw [step 4 (by decide), step 3 (by decide), self, step 1 (by decide), step 0 (by decide)]
  | 3 => rw [step 4 (by decide), self, step 2 (by decide), step 1 (by decide), step 0 (by decide)]
  | 4 => rw [self, step 3 (by decide), step 2 (by decide), step 1 (by decide), step 0 (by decide)]

/-- What an abort by a switch or by CLEAR leaves on the port of its lane (R92, R93). -/
def PortState.aborted (p : PortState) (h : Hold) : PortState :=
  { p with xfer := true, desc := if h.isFetch = true then { p.desc with state := .aborted } else p.desc }

/-- The ports after the abort of a lane (R92, R93). -/
theorem abortLane_port (l : LaneNo) (x : TransferResult) (n : Port) :
    (s.abortLane l x).port n = if l = laneOf n then (s.port n).aborted (s.lane l).hold else s.port n := by
  unfold State.abortLane
  cases hp : portOf l with
  | none =>
    dsimp only
    rw [if_neg]
    · rfl
    · rintro rfl
      revert hp
      revert n
      decide
  | some m =>
    have hlm : l = laneOf m := by
      revert hp
      revert l m
      decide
    subst hlm
    have hmn : (laneOf m = laneOf n) ↔ m = n := by
      clear hp
      revert m n
      decide
    simp only [hmn]
    by_cases hf : (s.lane (laneOf m)).hold.isFetch = true
    · rw [if_pos hf, setDescState_port, setXfer_port]
      by_cases h : n = m
      · subst h
        rw [if_pos rfl, if_pos rfl, if_pos rfl, PortState.aborted, if_pos hf]
        rfl
      · rw [if_neg h, if_neg (fun e => h e.symm), setXfer_port, if_neg h]
        rfl
    · rw [if_neg hf, setXfer_port]
      by_cases h : n = m
      · subst h
        rw [if_pos rfl, if_pos rfl, PortState.aborted, if_neg hf]
        rfl
      · rw [if_neg h, if_neg (fun e => h e.symm)]
        rfl

/-- The ports after the aborts of a switch or of CLEAR (R92, R93). -/
theorem abortLanes_port (x : TransferResult) (on : RecNo → Bool) (n : Port) :
    (s.abortLanes x on).port n
      = if (s.lane (laneOf n)).hold.record.any on then (s.port n).aborted (s.lane (laneOf n)).hold else s.port n := by
  have other : ∀ l : LaneNo, l ≠ laneOf n → ∀ t : State,
      (if (t.lane l).hold.record.any on then t.abortLane l x else t).port n = t.port n := by
    intro l hl t
    split
    · rw [abortLane_port, if_neg hl]
    · rfl
  have keep : ∀ l k : LaneNo, k ≠ l → ∀ t : State,
      (if (t.lane l).hold.record.any on then t.abortLane l x else t).lane k = t.lane k := by
    intro l k hl t
    split
    · rw [abortLane_lane, if_neg hl]
    · rfl
  have self : ∀ t : State, (if (t.lane (laneOf n)).hold.record.any on then t.abortLane (laneOf n) x else t).port n
      = if (t.lane (laneOf n)).hold.record.any on then (t.port n).aborted (t.lane (laneOf n)).hold else t.port n := by
    intro t
    split
    · rw [abortLane_port, if_pos rfl]
    · rfl
  simp only [State.abortLanes, allLanes, List.foldl_cons, List.foldl_nil]
  revert other self
  intro other self
  match n with
  | 0 =>
    rw [other 4 (by decide), other 3 (by decide), other 2 (by decide), other 1 (by decide)]
    exact self s
  | 1 =>
    rw [other 4 (by decide), other 3 (by decide), other 2 (by decide)]
    refine (self _).trans ?_
    rw [other 0 (by decide), keep 0 (laneOf 1) (by decide)]
  | 2 =>
    rw [other 4 (by decide), other 3 (by decide)]
    refine (self _).trans ?_
    rw [other 1 (by decide), other 0 (by decide), keep 1 (laneOf 2) (by decide), keep 0 (laneOf 2) (by decide)]
  | 3 =>
    rw [other 4 (by decide)]
    refine (self _).trans ?_
    rw [other 2 (by decide), other 1 (by decide), other 0 (by decide), keep 2 (laneOf 3) (by decide),
      keep 1 (laneOf 3) (by decide), keep 0 (laneOf 3) (by decide)]

/-! ## Unpinning -/

/-- The runtimes after an unpin claim: the fetched record's is unpinned, every other is as it was (R30). -/
theorem unpinClaim_runtime (q r : RecNo) (b : Buf) :
    (s.unpinClaim r b).runtime q = if q = r then (s.runtime r).map (·.unpin b) else s.runtime q := by
  have h0 : ∀ t : State, ∀ l : LaneNo, (t.startWaiting l r).runtime q = t.runtime q := by
    intro t l
    simp only [State.runtime, startWaiting_frame]
  unfold State.unpinClaim
  split
  · next rt d h _ =>
    dsimp only
    split
    · rw [h0, setRuntime_runtime, h]; rfl
    · rw [setRuntime_runtime, h]; rfl
  · next rt h _ => rw [setRuntime_runtime, h]; rfl
  · next h =>
    split
    · next e => subst e; rw [h]; rfl
    · rfl

/-- An unpin claim changes no lane but the owner's, which it can only take from WAITING on the record to ACTIVE with word index 0
(R34, R86). -/
theorem unpinClaim_lane (l : LaneNo) (r : RecNo) (b : Buf) :
    (s.unpinClaim r b).lane l = s.lane l
      ∨ ((s.lane l).hold = .waiting r ∧ (s.unpinClaim r b).lane l = { s.lane l with hold := .staging r 0 }) := by
  unfold State.unpinClaim
  split
  · next rt d _ _ =>
    dsimp only
    split
    · unfold State.startWaiting
      split
      · next hw =>
        rw [setLane_lane]
        split
        · next e =>
          subst e
          exact .inr ⟨by simpa using hw, by simp⟩
        · exact .inl (by simp)
      · exact .inl (by simp)
    · exact .inl (by simp)
  · exact .inl (by simp)
  · exact .inl rfl

/-- A transfer with a word left goes on. -/
theorem endIfDone_of_not (l : LaneNo) (h : s.transferDone l = false) : s.endIfDone l = s := by simp [State.endIfDone, h]

/-- A port lane's transfer ends with its last word. -/
theorem endIfDone_port (n : Port) (h : s.transferDone (laneOf n) = true) : s.endIfDone (laneOf n) = s.completeLane n := by
  simp [State.endIfDone, h]

/-- LM's fetch ends with its last word. -/
theorem endIfDone_lm (h : s.transferDone lm = true) : s.endIfDone lm = s.completeLm := by
  simp only [State.endIfDone, h, if_true]; rfl

end Sys2Proof.Machine
end

