-- ==== Sys2Proof/Laws/Control.lean ====
section
/-! SUPPORT. What the Exchange Controller's shared operations do: a change of exchange state, an abort seen from LM, the emptying of
the queues, a switch outside CONFIG, and the point of one record. -/

namespace Sys2Proof.Machine

variable (s : State)

/-- A change of exchange state that the open ballot's item allows, or with no ballot open, cancels nothing (R111, R122). -/
theorem changeExchange_of_allowed (x : ExState) (h : ∀ b, s.ballot.current = some b → b.item.allowedIn x = true) :
    s.changeExchange x = s.movedTo x := by
  have hc : s.cancelDisallowed x = s := by
    unfold State.cancelDisallowed
    cases hb : s.ballot.current with
    | none => rfl
    | some b => simp [h b hb]
  unfold State.changeExchange
  rw [hc, exchangeNote_eq]
  rfl

/-- A switch outside CONFIG leaves the Timebase (R137). -/
theorem applySwitch_tb (h : s.exchange ≠ .config) : s.applySwitch.tb = s.tb := by
  unfold State.applySwitch
  rw [switchNote_eq]
  simp [h, State.notedAll, State.installShadow]

/-- A switch clears the flag (R134). -/
theorem applySwitch_switchPending : s.applySwitch.switchPending = false := by
  unfold State.applySwitch
  rw [switchNote_eq]
  simp only [State.notedAll]
  split <;> simp [State.installShadow]

/-- An abort of LM's fetch is reported to the maintenance line; an abort of a port lane is not (R92, R93). -/
theorem abortLane_ml (l : LaneNo) (x : TransferResult) :
    (s.abortLane l x).ml
      = if l = lm then { s.ml with dataPeek := s.ml.dataPeek.map fun d => { d with status := .aborted } } else s.ml := by
  unfold State.abortLane
  cases hp : portOf l with
  | none =>
    rw [if_pos (by revert hp; revert l; decide)]
    rfl
  | some m =>
    rw [if_neg (by revert hp; revert l m; decide)]
    dsimp only
    split <;> simp

/-- The maintenance line after an abort of several lanes (R92, R93). -/
theorem abortLanes_ml (x : TransferResult) (on : RecNo → Bool) :
    (s.abortLanes x on).ml
      = if (s.lane lm).hold.record.any on = true then
          { s.ml with dataPeek := s.ml.dataPeek.map fun d => { d with status := .aborted } }
        else s.ml := by
  have keep : ∀ l k : LaneNo, k ≠ l → ∀ t : State,
      (if (t.lane l).hold.record.any on then t.abortLane l x else t).lane k = t.lane k := by
    intro l k hl t
    split
    · rw [abortLane_lane, if_neg hl]
    · rfl
  have other : ∀ l, l ≠ lm → ∀ t : State, (if (t.lane l).hold.record.any on then t.abortLane l x else t).ml = t.ml := by
    intro l hl t
    split
    · rw [abortLane_ml, if_neg hl]
    · rfl
  have self : ∀ t : State,
      (if (t.lane lm).hold.record.any on then t.abortLane lm x else t).ml
        = if (t.lane lm).hold.record.any on = true then
            { t.ml with dataPeek := t.ml.dataPeek.map fun d => { d with status := .aborted } }
          else t.ml := by
    intro t
    split
    · rw [abortLane_ml, if_pos rfl]
    · rfl
  simp only [State.abortLanes, allLanes, List.foldl_cons, List.foldl_nil]
  refine (self _).trans ?_
  rw [keep 3 lm (by decide), keep 2 lm (by decide), keep 1 lm (by decide), keep 0 lm (by decide), other 3 (by decide),
    other 2 (by decide), other 1 (by decide), other 0 (by decide)]

/-- A port after CLEAR empties the queues (R74). -/
theorem emptyQueues_port (n : Port) : s.emptyQueues.port n = { s.port n with queue := [], lost := 0 } := by
  unfold State.emptyQueues allPorts
  simp only [List.foldl_cons, List.foldl_nil, modPort_port]
  fin_cases n <;> simp

/-! ## The point of one record (R43, R46, R47) -/

/-- The set of one port. -/
theorem portBit_getLsbD (n m : Port) : (portBit n).getLsbD m.val = decide (m = n) := by
  revert n m
  decide

/-- The runtimes after a record's point: its own is the one the point gives. -/
theorem takePoint_runtime (r q : RecNo) (d : RecordDef) (rt : Runtime) (hd : s.activeDef r = some d)
    (hr : s.runtime r = some rt) :
    (s.takePoint r).runtime q = if q = r then some (pointRuntime d rt s.tb.cycleNumber) else s.runtime q := by
  unfold State.takePoint
  simp only [hd, hr]
  by_cases h1 : rt.staging = .ready
  · rw [if_pos h1]
    have hf : ((s.setRuntime r (rt.publish s.tb.cycleNumber)).publishEntries r d rt s.tb.cycleNumber).runtimes
        = (s.setRuntime r (rt.publish s.tb.cycleNumber)).runtimes := by simp
    rw [State.runtime, hf]
    refine (setRuntime_runtime s q r (rt.publish s.tb.cycleNumber)).trans ?_
    simp only [pointRuntime, if_pos h1, Runtime.publish, nextVersion]
  · rw [if_neg h1]
    by_cases h2 : rt.health = .unpublished
    · rw [if_pos h2]
      simp only [pointRuntime, if_neg h1, if_pos h2]
      split
      · next e => rw [e, hr]
      · rfl
    · rw [if_neg h2]
      have hf : ((s.setRuntime r (rt.miss d.missLimit)).missEntries r d rt s.tb.cycleNumber).runtimes
          = (s.setRuntime r (rt.miss d.missLimit)).runtimes := by simp
      rw [State.runtime, hf]
      refine (setRuntime_runtime s q r (rt.miss d.missLimit)).trans ?_
      have hm : rt.miss d.missLimit = pointRuntime d rt s.tb.cycleNumber := by
        simp only [pointRuntime, if_neg h1, if_neg h2, Runtime.miss, Runtime.missDeclares, Bool.and_eq_true,
          decide_eq_true_eq]
        rfl
      rw [hm]

/-- The queues after a record's point: each port takes the entries of that point, in order (R48, R50, R53). -/
theorem takePoint_port (r : RecNo) (d : RecordDef) (rt : Runtime) (n : Port) (hd : s.activeDef r = some d)
    (hr : s.runtime r = some rt) (ho : d.subscribers.getLsbD d.owner.val = false) :
    (s.takePoint r).port n = (pointEntries r d rt s.tb.cycleNumber n).foldl PortState.accept (s.port n) := by
  have hs : ∀ x m, (s.setRuntime r x).port m = s.port m := fun _ _ => rfl
  unfold State.takePoint
  simp only [hd, hr]
  by_cases h1 : rt.staging = .ready
  · rw [if_pos h1]
    unfold State.publishEntries pointEntries nextVersion
    rw [if_pos h1]
    by_cases hh : rt.health = .stale <;> by_cases hp : d.publishNotes = true <;> by_cases hn : n = d.owner <;>
      by_cases hb : d.subscribers.getLsbD n.val = true <;>
      simp only [hh, hp, hb, handAll_port, portBit_getLsbD, hs, hn, ho, decide_true, decide_false, if_true, if_false,
        and_true, and_false, or_false, or_true, Bool.false_eq_true, List.nil_append,
        List.append_nil, List.foldl_nil, List.foldl_cons, List.cons_append]
  · rw [if_neg h1]
    by_cases h2 : rt.health = .unpublished
    · rw [if_pos h2]
      simp [pointEntries, h1, h2]
    · rw [if_neg h2]
      unfold State.missEntries pointEntries
      rw [if_neg h1, if_neg h2]
      have hm : (rt.health = .fresh ∧ min 15 (rt.missCount + 1) = d.missLimit) ↔ rt.missDeclares d.missLimit = true := by
        simp only [Runtime.missDeclares, Bool.and_eq_true, decide_eq_true_eq]
        rfl
      simp only [hm]
      by_cases hh : rt.missDeclares d.missLimit = true <;> by_cases hp : d.missNotes = true <;>
        by_cases hn : n = d.owner <;> by_cases hb : d.subscribers.getLsbD n.val = true <;>
        simp only [hh, hp, hb, handAll_port, portBit_getLsbD, hs, hn, ho, decide_true, decide_false, if_true, if_false,
          and_true, and_false, or_false, or_true, Bool.false_eq_true, List.nil_append,
          List.append_nil, List.foldl_nil, List.foldl_cons, List.cons_append] <;>
        (cases rt.staging <;> rfl)

end Sys2Proof.Machine
end

