-- ==== Sys2Proof/Laws/Exec.lean ====
section
/-! SUPPORT. The two forms in which commands answer, and what the frame of a request leaves on its port. -/

namespace Sys2Proof.Machine

variable (s : State)

/-- A command that is due answers its effect. -/
@[simp] theorem ifDue_true (e : State) : ifDue true s e = .next e := rfl

/-- A command that is not due leaves the state. -/
@[simp] theorem ifDue_false (e : State) : ifDue false s e = .next s := rfl

/-- All that `ifDue` can answer. -/
theorem ifDue_eq_next (due : Bool) (e t : State) :
    ifDue due s e = .next t ↔ (due = true ∧ t = e) ∨ (due = false ∧ t = s) := by
  cases due
  · simp [eq_comm]
  · simp [eq_comm]

/-- A property of both the effect and the state holds of the answer. -/
theorem ifDue_preserves (p : State → Prop) {due : Bool} {s e t : State} (h : ifDue due s e = .next t) (hs : p s)
    (he : due = true → p e) : p t := by
  rcases (ifDue_eq_next s due e t).1 h with ⟨hd, rfl⟩ | ⟨_, rfl⟩
  · exact he hd
  · exact hs

/-- All that a write kind can answer: its frame is not there and the state stays; a refusal ends the frame with its result; the
request is taken and the frame ends with OK (R163). -/
theorem writeKind_eq_next (n : Port) (code : Byte) (params after : List Byte) (refusal : Option Result) (e t : State) :
    writeKind s n code params after refusal e = .next t ↔
      (s.writeFrameOn n code params after = false ∧ t = s)
        ∨ (∃ r, s.writeFrameOn n code params after = true ∧ refusal = some r ∧ t = s.endFrame n r after.length)
        ∨ (s.writeFrameOn n code params after = true ∧ refusal = none ∧ t = e.endFrame n .ok after.length) := by
  unfold writeKind
  rw [ifDue_eq_next]
  cases refusal with
  | none =>
    dsimp only
    constructor
    · rintro (⟨h, rfl⟩ | ⟨h, rfl⟩)
      · exact .inr (.inr ⟨h, rfl, rfl⟩)
      · exact .inl ⟨h, rfl⟩
    · rintro (⟨h, rfl⟩ | ⟨r, _, h, _⟩ | ⟨h, _, rfl⟩)
      · exact .inr ⟨h, rfl⟩
      · cases h
      · exact .inl ⟨h, rfl⟩
  | some r =>
    dsimp only
    constructor
    · rintro (⟨h, rfl⟩ | ⟨h, rfl⟩)
      · exact .inr (.inl ⟨r, h, rfl, rfl⟩)
      · exact .inl ⟨h, rfl⟩
    · rintro (⟨h, rfl⟩ | ⟨r', h, hr, rfl⟩ | ⟨_, hr, _⟩)
      · exact .inr ⟨h, rfl⟩
      · cases hr; exact .inl ⟨h, rfl⟩
      · cases hr

/-- A property that the end of a frame keeps holds after a write kind. -/
theorem writeKind_preserves (p : State → Prop) {n : Port} {code : Byte} {params after : List Byte}
    {refusal : Option Result} {s e t : State} (h : writeKind s n code params after refusal e = .next t) (hs : p s)
    (hend : ∀ u r k, p u → p (u.endFrame n r k)) (he : refusal = none → p e) : p t := by
  rcases (writeKind_eq_next s n code params after refusal e t).1 h with ⟨_, rfl⟩ | ⟨r, _, _, rfl⟩ | ⟨_, hr, rfl⟩
  · exact hs
  · exact hend _ _ _ hs
  · exact hend _ _ _ (he hr)

/-- A whole write frame stands on a port whose parser holds a header of the kind, with the parameters and the bytes after it. -/
theorem writeFrameOn_eq (n : Port) (h : FrameHeader) (after : List Byte) (hl : s.live = true)
    (hp : (s.port n).parser = .payload h) (code : Byte) (params : List Byte) :
    s.writeFrameOn n code params after
      = (h.code = code && h.params.take params.length == params && h.whole after 0) := by
  simp [State.writeFrameOn, hl, hp]

/-- The end of a frame keeps the queue law. -/
theorem endFrame_queuesOk (n : Port) (r : Result) (k : Nat) (h : s.QueuesOk) : (s.endFrame n r k).QueuesOk :=
  modPort_queuesOk s n _ h (h n)

/-- A response keeps the queue law. -/
theorem respond_queuesOk (n : Port) (r : Result) (bs : List Byte) (h : s.QueuesOk) : (s.respond n r bs).QueuesOk :=
  modPort_queuesOk s n _ h (h n)

end Sys2Proof.Machine
end

