-- ==== Sys2Proof/Laws/Line.lean ====
section
/-! SUPPORT. When the maintenance line takes a byte and when it can collide, in terms of what the part sends. -/

namespace Sys2Proof.Machine

variable (s : State)

/-- What is sent ends in a break of the part's own, or is one. -/
theorem isBreak_iff (o : LineOutput) : o.isBreak = true ↔ o = .ownBreak ∨ ∃ b, o = .echoThenBreak b := by
  cases o <;> simp [LineOutput.isBreak]

/-- What is sent is a response, or an echo that goes before one. -/
theorem isResponse_iff (o : LineOutput) :
    o.isResponse = true ↔ ∃ bytes, o = .response bytes ∨ ∃ b, o = .echoThenResponse b bytes := by
  cases o <;> simp [LineOutput.isResponse]

/-- A byte can come exactly where the part works and MLINE is free. -/
theorem byteCanCome_iff : s.byteCanCome = true ↔ s.live = true ∧ s.ml.Free := by
  simp [State.byteCanCome, MLine.Free, isBreak_iff]

/-- The part sends bytes while it echoes and while it sends a response, not in a break of its own. -/
theorem sendsBytes_iff (m : MLine) :
    m.sendsBytes = true ↔ m.line = .echoing ∨ (m.line = .responding ∧ m.sent ≠ .ownBreak ∧ ∀ b, m.sent ≠ .echoThenBreak b) := by
  have h : m.sent.isBreak = false ↔ m.sent ≠ .ownBreak ∧ ∀ b, m.sent ≠ .echoThenBreak b := by
    rw [← Bool.not_eq_true, isBreak_iff]; simp
  simp [MLine.sendsBytes, h]

end Sys2Proof.Machine
end

