-- ==== Sys2Proof/Laws/Memory.lean ====
section
/-! SUPPORT. The Record Store's operations: a write keeps the canonical form, a read after a write gives the word written, and
other words keep their values. -/

namespace Sys2Proof.Machine

/-- Below the first address a canonical list may hold, every word reads 0. -/
theorem Memory.read_below (m : Memory) (lo a : Nat) (h : m.wfFrom lo = true) (ha : a < lo) : m.read a = 0 := by
  induction m generalizing lo with
  | nil => rfl
  | cons c m ih =>
    simp only [Memory.wfFrom, Bool.and_eq_true, decide_eq_true_eq] at h
    have hne : c.1 ≠ a := by omega
    simp only [Memory.read, if_neg hne]
    exact ih (c.1 + 1) h.2 (by omega)

/-- A smaller bound holds as well. -/
theorem Memory.wfFrom_mono (m : Memory) {lo lo' : Nat} (hle : lo' ≤ lo) (h : m.wfFrom lo = true) : m.wfFrom lo' = true := by
  cases m with
  | nil => rfl
  | cons c m =>
    simp only [Memory.wfFrom, Bool.and_eq_true, decide_eq_true_eq] at h ⊢
    exact ⟨⟨⟨by omega, h.1.1.2⟩, h.1.2⟩, h.2⟩

/-- A word written is read back. -/
theorem Memory.read_write_same (m : Memory) (a : Nat) (w : Word) (lo : Nat) (h : m.wfFrom lo = true) :
    (m.write a w).read a = w := by
  induction m generalizing lo with
  | nil =>
    by_cases hw : w = 0
    · subst hw; rfl
    · simp only [Memory.write, if_neg hw, Memory.read, if_true]
  | cons c m ih =>
    obtain ⟨b, v⟩ := c
    have hm : Memory.wfFrom (b + 1) m = true := by
      simp only [Memory.wfFrom, Bool.and_eq_true] at h
      exact h.2
    simp only [Memory.write]
    split
    · next hlt =>
      split
      · next hw =>
        subst hw
        simp only [Memory.read, if_neg (show b ≠ a by omega)]
        exact Memory.read_below m (b + 1) a hm (by omega)
      · simp [Memory.read]
    · split
      · next hab =>
        subst hab
        split
        · next hw =>
          subst hw
          exact Memory.read_below m (a + 1) a hm (by omega)
        · simp [Memory.read]
      · next hne =>
        simp only [Memory.read, if_neg (fun e : b = a => hne e.symm)]
        exact ih (b + 1) hm

/-- A write leaves every other word. -/
theorem Memory.read_write_other (m : Memory) {a c : Nat} (w : Word) (hne : c ≠ a) : (m.write a w).read c = m.read c := by
  induction m with
  | nil =>
    by_cases hw : w = 0
    · subst hw; rfl
    · simp only [Memory.write, if_neg hw, Memory.read, if_neg hne.symm]
  | cons x m ih =>
    obtain ⟨b, v⟩ := x
    simp only [Memory.write]
    split
    · split
      · rfl
      · simp [Memory.read, hne.symm]
    · split
      · next hab =>
        subst hab
        split <;> simp [Memory.read, hne.symm]
      · simp only [Memory.read]
        split
        · rfl
        · exact ih

/-- A write keeps the canonical form from any bound at or below its address. -/
theorem Memory.write_wfFrom (m : Memory) (a : Nat) (w : Word) (lo : Nat) (h : m.wfFrom lo = true) (hlo : lo ≤ a)
    (ha : a < Config.storeWords) : (m.write a w).wfFrom lo = true := by
  induction m generalizing lo with
  | nil =>
    by_cases hw : w = 0
    · subst hw; rfl
    · simp only [Memory.write, if_neg hw, Memory.wfFrom, Bool.and_eq_true, decide_eq_true_eq, bne_iff_ne]
      exact ⟨⟨⟨hlo, ha⟩, hw⟩, trivial⟩
  | cons x m ih =>
    obtain ⟨b, v⟩ := x
    have h' := h
    simp only [Memory.wfFrom, Bool.and_eq_true, decide_eq_true_eq] at h
    simp only [Memory.write]
    split
    · next hlt =>
      split
      · exact h'
      · next hw =>
        simp only [Memory.wfFrom, Bool.and_eq_true, decide_eq_true_eq, bne_iff_ne]
        exact ⟨⟨⟨hlo, ha⟩, hw⟩, ⟨⟨⟨by omega, h.1.1.2⟩, by simpa using h.1.2⟩, h.2⟩⟩
    · split
      · next hab =>
        subst hab
        split
        · exact Memory.wfFrom_mono m (by omega) h.2
        · next hw =>
          simp only [Memory.wfFrom, Bool.and_eq_true, decide_eq_true_eq, bne_iff_ne]
          exact ⟨⟨⟨hlo, ha⟩, hw⟩, h.2⟩
      · next hne =>
        simp only [Memory.wfFrom, Bool.and_eq_true, decide_eq_true_eq]
        exact ⟨h.1, ih (b + 1) h.2 (by omega)⟩

/-- A write inside the store keeps the canonical form. -/
theorem Memory.write_wf (m : Memory) (a : Nat) (w : Word) (h : m.wf = true) (ha : a < Config.storeWords) :
    (m.write a w).wf = true := Memory.write_wfFrom m a w 0 h (Nat.zero_le a) ha

/-- A canonical store reads back what is written to it. -/
theorem Memory.read_write (m : Memory) (a c : Nat) (w : Word) (h : m.wf = true) :
    (m.write a w).read c = if c = a then w else m.read c := by
  split
  · next e => subst e; exact Memory.read_write_same m c w 0 h
  · next e => exact Memory.read_write_other m w e

end Sys2Proof.Machine
end

