-- ==== Sys2Proof/Laws/Time.lean ====
section
/-! SUPPORT. What a step is, and what time does on an empty queue: which fields it can move, and how. -/

namespace Sys2Proof.Machine

variable (s : State)

/-- With a command at the front of the queue a step is that command on the state with the queue's rest. -/
@[simp] theorem step_cons (c : Instr) (rest : List Instr) : step { s with pending := c :: rest } = exec c { s with pending := rest } :=
  rfl

/-- All that a step can be: the command at the front of the queue, or the passing of time. -/
theorem step_cases {t : State} (h : step s = .next t) :
    (∃ c rest, s.pending = c :: rest ∧ exec c { s with pending := rest } = .next t)
      ∨ (s.pending = [] ∧ t = s.passTime) := by
  unfold step at h
  cases hp : s.pending with
  | nil => rw [hp] at h; cases h; exact .inr ⟨rfl, rfl⟩
  | cons c rest => rw [hp] at h; exact .inl ⟨c, rest, rfl, h⟩

/-- No time passes for a part that does not work. -/
theorem passTime_of_dead (h : s.live = false) : s.passTime = s := by simp [State.passTime, h]

/-- What time leaves as it is. -/
@[simp] theorem passTime_frame :
    s.passTime.pending = s.pending ∧ s.passTime.powered = s.powered ∧ s.passTime.resetLow = s.resetLow ∧
    s.passTime.members = s.members ∧ s.passTime.lanes = s.lanes ∧ s.passTime.arbiter = s.arbiter ∧
    s.passTime.active = s.active ∧ s.passTime.shadow = s.shadow ∧ s.passTime.runtimes = s.runtimes ∧
    s.passTime.store = s.store ∧ s.passTime.clearing = s.clearing ∧ s.passTime.exchange = s.exchange ∧
    s.passTime.ballot = s.ballot ∧ s.passTime.switchPending = s.switchPending ∧ s.passTime.opt = s.opt := by
  unfold State.passTime; split <;> simp

/-- Time on a port. -/
theorem passTime_port (n : Port) : s.passTime.port n = if s.live = true then (s.port n).clockOut else s.port n := by
  unfold State.passTime; split <;> simp [State.port]

/-- Time on the maintenance line. -/
theorem passTime_ml : s.passTime.ml = if s.live = true then s.ml.sendOn else s.ml := by unfold State.passTime; split <;> rfl

/-- Time on the Timebase. -/
theorem passTime_tb : s.passTime.tb = if s.live = true ∧ s.nextTickDue = true then s.tb.countTick else s.tb := by
  unfold State.passTime
  cases hl : s.live <;> cases hn : s.nextTickDue <;> simp

/-- When SYNCOUT's pulse ends. -/
theorem pulseEndDue_iff :
    s.pulseEndDue = true ↔ s.live = true ∧ s.tb.syncOut = true ∧ s.tb.tickHanded = true ∧ 7 ≤ s.tb.syncOutAge := by
  simp [State.pulseEndDue, Config.syncOutTicks, and_assoc]

/-- When the next tick is counted. -/
theorem nextTickDue_iff :
    s.nextTickDue = true ↔ s.live = true ∧ s.tb.running = true ∧ s.tb.tickHanded = true
      ∧ s.tb.tickCount + 1 < s.active.header.cycleTicks ∧ s.missedDue = false
      ∧ (s.tb.syncOut = true → s.tb.syncOutAge < 7) := by
  simp only [State.nextTickDue, State.counting, Bool.and_eq_true, decide_eq_true_eq, Bool.not_eq_true', ← Bool.not_eq_true,
    pulseEndDue_iff]
  grind

/-- Clocking out a byte moves the parser and the byte count only. -/
theorem clockOut_eq (p : PortState) : p.clockOut = { p with parser := p.clockOut.parser, byteCount := p.clockOut.byteCount } := by
  unfold PortState.clockOut PortState.countBytes
  split
  · split <;> rfl
  all_goals rfl

/-- A port that is not sending a response is left by time. -/
theorem clockOut_of_ne (p : PortState) (h : p.parser ≠ .respond) : p.clockOut = p := by
  unfold PortState.clockOut
  split
  · exact absurd ‹_› h
  all_goals rfl

/-- What the part sends moves the line state only. -/
theorem sendOn_eq (m : MLine) : m.sendOn = { m with line := m.sendOn.line } := by
  unfold MLine.sendOn
  split
  · rfl
  · split <;> rfl
  all_goals rfl

/-- Time keeps the queue law. -/
theorem passTime_queuesOk (h : s.QueuesOk) : s.passTime.QueuesOk := fun n => by
  rw [passTime_port]
  split
  · rw [clockOut_eq]; exact h n
  · exact h n

/-- A header that names no read kind leaves all but its port. -/
@[simp] theorem takeHeader_frame (n : Port) (h : FrameHeader) :
    (s.takeHeader n h).pending = s.pending ∧ (s.takeHeader n h).powered = s.powered ∧
    (s.takeHeader n h).resetLow = s.resetLow ∧ (s.takeHeader n h).members = s.members ∧
    (s.takeHeader n h).lanes = s.lanes ∧ (s.takeHeader n h).arbiter = s.arbiter ∧ (s.takeHeader n h).active = s.active ∧
    (s.takeHeader n h).shadow = s.shadow ∧ (s.takeHeader n h).runtimes = s.runtimes ∧
    (s.takeHeader n h).store = s.store ∧ (s.takeHeader n h).clearing = s.clearing ∧
    (s.takeHeader n h).exchange = s.exchange ∧ (s.takeHeader n h).ballot = s.ballot ∧
    (s.takeHeader n h).switchPending = s.switchPending ∧ (s.takeHeader n h).tb = s.tb ∧
    (s.takeHeader n h).ml = s.ml ∧ (s.takeHeader n h).opt = s.opt := by
  refine ⟨rfl, rfl, rfl, rfl, rfl, rfl, rfl, rfl, rfl, rfl, rfl, rfl, rfl, rfl, rfl, rfl, rfl⟩

end Sys2Proof.Machine
end

