-- ==== Sys2Proof/WellFormed.lean ====
section
/-! DEFINITION. What a command's operands must satisfy beyond their types. The payloads of EDIT RECORD, EDIT HEADER and OPTION
WRITE have their lengths in their types. -/

namespace Sys2Proof

/-- FRAME_DISCARD: a partial byte has fewer than eight bits (R164). WRITE_WINDOW: the payload is 4 × count bytes (R159).
UNKNOWN_COMMAND: the code is not one of section 13.4 (R188). -/
def Instr.wellFormed : Instr → Bool
  | .frameDiscard _ _ partialBits => partialBits < 8
  | .writeWindow _ _ count payload _ => payload.length = 4 * count.toNat
  | .unknownCommand code => !([0x01, 0x02, 0x03, 0x04, 0x0A, 0x0B, 0x0C] : List Byte).contains code
  | .powerOn _ | .resetN | .resetNRelease | .clearDone | .chipSelectAssert _ | .unknownCode _ _ | .status _
  | .readWindow _ _ _ | .take _ | .readRecord _ _ _ | .readHeader _ _ | .readBallot _ | .stage _ _ | .fetch _ _
  | .acknowledge _ _ | .setAttention _ _ _ _ | .editRecord _ _ _ _ | .dropRecord _ _ | .editHeader _ _ _
  | .revertShadow _ | .vote _ _ _ | .freeze _ | .portReset _ | .wordAccess | .stageComplete _ | .fetchComplete _
  | .lmComplete | .waitingStageStart _ | .tick | .cycleStart | .switch | .syncoutPulseEnd | .syncPulse
  | .missedPulseEvent | .ballotTimerTick | .ballotExpiry | .lineBreak | .collision | .framingError | .codeByte _
  | .statusPeek | .defPeek _ | .dataPeek _ | .dataPeekResponse | .queuePeek _ _ | .freezeCommand | .optionWrite _ _
  | .programmingComplete | .optionRead | .chipSelectRelease _ | .hcheckArrival _ _ | .mlineCommandByte _
  | .lastResponseByteSent | .powerLoss => true

end Sys2Proof
end

