-- ==== Sys2Proof/Tests/Slice0.lean ====
section
/-! SUPPORT. The model's own tests: the well-formedness smoke, single steps on small states, the spec's worked values, and for each
statement with hypotheses a concrete state and operands that meet them, clause by clause at the boundaries of its ranges. -/

set_option Elab.async false

namespace Sys2Proof.Tests

open Sys2Proof.Machine

/-! ## Small states -/

/-- A command answers a next state with this property. -/
def gives (c : Instr) (s : State) (p : State → Bool) : Bool :=
  match exec c s with
  | .next t => p t
  | .fault _ | .refused _ => false

/-- CONFIG after the first clear, no record defined, the EXCHANGE note for INIT in each queue. -/
def cfg : State := { State.reset with exchange := .config, clearing := false, tb := { State.reset.tb with running := true } }

/-- Record 0: owner P0, subscriber P1, words 0..5, point 0, every cycle. -/
def def0 : RecordDef where
  owner := 0
  subscribers := 0b0010#4
  length := 2
  base := 0
  point := 0
  period := 1
  phase := 0
  missLimit := 2
  publishNotes := true
  missNotes := true

/-- Record 127: every field but the owner at its upper limit. -/
def def127 : RecordDef where
  owner := 1
  subscribers := 0b1101#4
  length := 32
  base := 8096
  point := 49999
  period := 128
  phase := 127
  missLimit := 15
  publishNotes := true
  missNotes := true

/-- An image with record 0 alone. -/
def image0 : Image := { Image.reset with defs := Image.reset.defs.set 0 (some def0) }

/-- The exchange in a state, record 0 defined with this runtime. -/
def withRecord (x : ExState) (rt : Runtime) : State :=
  { cfg with exchange := x, active := image0, shadow := image0, runtimes := cfg.runtimes.set 0 (some rt) }

/-- A record published once, FRESH. -/
def published : Runtime := { Runtime.initial with version := 1, health := .fresh }

/-- A BLOCKED record: buffer 0 PUB, both others RETIRED and pinned once. -/
def blocked : Runtime :=
  { published with staging := .blocked, roles := #v[.pub, .retired, .retired], pins := #v[0, 1, 1] }

/-- Port n stands in HEADER. -/
def reading (n : Port) (s : State) : State := s.withPort n { s.port n with selected := true, parser := .header }

/-- Port n stands in PAYLOAD with this header. -/
def writing (n : Port) (code p1 p2 p3 : Byte) (s : State) : State :=
  s.withPort n { s.port n with selected := true, parser := .payload ⟨code, p1, p2, p3, crc8 [code, p1, p2, p3]⟩ }

/-- What a statement about a read kind asks of the port. -/
abbrev Reads (n : Port) (s : State) : Prop := s.live = true ∧ (s.port n).parser = .header

/-- What a statement about a write kind asks of the port. -/
abbrev Writes (n : Port) (code p1 p2 p3 : Byte) (s : State) : Prop :=
  s.live = true ∧ (s.port n).parser = .payload ⟨code, p1, p2, p3, crc8 [code, p1, p2, p3]⟩

/-- Port n's queue holds these entries. -/
def withQueue (n : Port) (q : List Entry) (s : State) : State := s.withPort n { s.port n with queue := q }

/-- A lane holds this. -/
def holding (l : LaneNo) (h : Hold) (s : State) : State := s.setLane l ⟨h, .none⟩

/-- Port n's descriptor names a FETCH of record 0 that is copying. -/
def capturing (n : Port) (s : State) : State :=
  s.withPort n { s.port n with desc := { state := .inProgress, record := 0, version := 1, health := .fresh, lastCycle := 0,
                                         length := 2 } }

/-- RUN with transfers under way on record 0: P0's STAGE at word 1, P1's FETCH and LM's fetch of buffer 0. -/
def busy : State :=
  capturing 1 (holding 4 (.fetching 0 0 0) (holding 1 (.fetching 0 0 0) (holding 0 (.staging 0 1)
    (withRecord .run { published with staging := .filling, pins := #v[2, 0, 0] }))))

/-- The tick in progress is the last of its cycle. -/
def lastTick (s : State) : State := { s with tb := { s.tb with tickCount := 999, tickHanded := true } }

/-- An open ballot. -/
def ballotOf (i : Item) (votes : Vector Vote 4) : OpenBallot := ⟨i, votes, 0, 0, 50⟩

/-- A ballot stands open. -/
def withBallot (b : OpenBallot) (s : State) : State := { s with ballot := { s.ballot with current := some b } }

/-- The Timebase of a follower in a discipline at a tick. -/
def follower (d : Discipline) (tick : Nat) : State :=
  { cfg with active := { cfg.active with header := { cfg.active.header with mode := .follower } },
             tb := { cfg.tb with discipline := d, tickCount := tick, tickHanded := true } }

/-- OPEN access, parser and line as given. -/
def openLine (p : CmdParser) (s : State) : State := { s with ml := { s.ml with access := .opened, parser := p } }

/-! ## Well-formedness -/

theorem test_wellFormed_refuses_a_partial_byte_of_eight_bits :
    (Instr.frameDiscard 0 [] 8).wellFormed = false ∧ (Instr.frameDiscard 0 [] 7).wellFormed = true := by decide

theorem test_wellFormed_refuses_a_payload_of_another_length :
    (Instr.writeWindow 0 0 1 [0, 0, 0] 0).wellFormed = false
      ∧ (Instr.writeWindow 0 0 1 [0, 0, 0, 0] 0).wellFormed = true := by decide

theorem test_wellFormed_refuses_a_known_code_as_unknown :
    (∀ c ∈ commandCodes, (Instr.unknownCommand c).wellFormed = false)
      ∧ (Instr.unknownCommand 0x05).wellFormed = true := by decide +kernel

theorem test_every_command_without_a_check_is_wellFormed :
    Instr.tick.wellFormed = true ∧ (Instr.powerOn 0).wellFormed = true ∧ (Instr.vote 3 0xFF 0xFF).wellFormed = true := by
  decide

/-- No row of the table gives bits, so no word spells a command and none is put in front of the queue. -/
theorem test_no_word_spells_a_command :
    decodeTableWord 8 0x10 = none ∧ State.reset.withFetchWord 8 0x10 = State.reset := by
  exact ⟨rfl, rfl⟩

/-! ## The spec's worked values -/

/-- R160's reference values. -/
theorem test_crc_of_zero_bytes : crc8 [] = 0xFF ∧ crc8 [0] = 0xF3 ∧ crc8 [0, 0, 0, 0] = 0xD1 := by decide +kernel

/-- 13's example: the eight bytes 01h 05h 00h 29h 86h 02h 00h 00h are a PUBLISHED entry of record 5, version 41, cycle 134,
count 2. -/
theorem test_example_of_one_entry :
    entryBytes (.published 5 41 134 2) = [0x01, 0x05, 0x00, 0x29, 0x86, 0x02, 0x00, 0x00] := by decide

/-- R189: the codes of the last item of each enumeration. -/
theorem test_codes_of_R189 :
    ExState.halted.code = 6 ∧ Discipline.holdover.code = 5 ∧ Health.stale.code = 2 ∧ Staging.blocked.code = 3
      ∧ TransferResult.abortedClear.code = 4 ∧ DescState.aborted.code = 3 ∧ MissReason.blocked.code = 3
      ∧ Item.clear.code = 5 ∧ BallotOutcome.cancelled.code = 4 ∧ Reason.toleranceOrder.code = 6
      ∧ Result.alreadyVoted.code = 16 ∧ MStatus.unknown.code = 11 ∧ Access.limited.code = 2 := by decide

/-- R7: a runtime's initial values, as R187 lays them out: version 0, UNPUBLISHED, EMPTY, roles PUB, STG, RETIRED. -/
theorem test_initial_runtime_bytes : runtimeBytes (some Runtime.initial) = [0, 0, 0, 0, 0, 0, 0x39, 0, 0, 0] := by decide

/-- 10's example, frame 1: a WRITE WINDOW of count 2 released after 7 payload bytes is discarded, with CHECK and FRAME. -/
theorem test_example_short_write_frame :
    gives (.frameDiscard 1 [1, 2, 3, 4, 5, 6, 7] 0) (writing 1 0x20 0 2 0 cfg)
      (fun t => (t.port 1).lastResult == .check && (t.port 1).frame && (t.port 1).atnLow) = true := by decide +kernel

/-! ## Witnesses: steps, power and reset -/

theorem test_witness_StepRunsFrontCommand :
    State.reset.pending = [] ∧ step { cfg with pending := [.tick, .powerLoss] } = exec .tick { cfg with pending := [.powerLoss] } :=
  ⟨rfl, rfl⟩

theorem test_witness_ExecKeepsQueue : gives .clearDone State.reset (fun t => t.exchange == .config) = true := by decide +kernel

theorem test_witness_CommandsAnswerNextState : Instr.tick ≠ .wordAccess ∧ busy.TableOk := by
  refine ⟨by decide, ⟨?_, by decide +kernel⟩, ?_, by decide +kernel⟩ <;> intro r d h <;> by_cases e : r = 0
  · subst e; cases h; decide +kernel
  · have : ∀ r : RecNo, r ≠ 0 → busy.active.defs[r] = none := by decide +kernel
    rw [this r e] at h; cases h
  · subst e; cases h; decide +kernel
  · have : ∀ r : RecNo, r ≠ 0 → busy.shadow.defs[r] = none := by decide +kernel
    rw [this r e] at h; cases h

/-- A group that passes the store's end, which R3 allows no definition to have, is where WORD_ACCESS faults. -/
theorem test_word_access_past_the_store_faults :
    (match exec .wordAccess { busy with active := { busy.active with
        defs := busy.active.defs.set 0 (some { def0 with base := 8192 }) } } with
      | .fault .storeAddress => true
      | _ => false) = true := by decide +kernel

theorem test_witness_DeadPartTakesNothing :
    State.live { cfg with powered := false } = false ∧ State.live { cfg with resetLow := true } = false
      ∧ Instr.tick.reachesDeadPart = false := by decide +kernel

theorem test_witness_PowerOnResetsEveryBlock :
    (∀ ticks ∈ [(199#16, 1000), (200#16, 200), (50000#16, 50000), (50001#16, 1000)],
      gives (.powerOn 0b0110#4) { cfg with opt := ⟨.programmed, ⟨Vector.replicate 8 7, 4, 1, ticks.1⟩⟩ }
        (fun t => t.active.header.cycleTicks == ticks.2 && t.tb.discipline == .seek && t.members == 0b0110#4
          && t.ml.rate == .baud115200 && t.ml.storedCode == some (Vector.replicate 8 7)) = true)
      ∧ gives (.powerOn 0) { cfg with opt := ⟨.programming, cfg.opt.image⟩ }
        (fun t => t.members == 0b1111#4 && t.opt.state == .unprogrammed && t.ml.storedCode == none) = true := by
  decide +kernel

theorem test_witness_ResetPinResetsEveryBlock : busy.live = true := by decide +kernel

theorem test_witness_ResetReleaseEntersInit :
    gives .resetN busy (fun t => t.powered && t.resetLow && (t.port 0).queue.isEmpty) = true := by decide +kernel

theorem test_witness_ClearDoneEntersConfig :
    State.reset.live = true ∧ State.reset.clearing = true ∧ State.reset.exchange = .init := by decide +kernel

/-! ## Witnesses: frames -/

theorem test_witness_ChipSelectFormsSummary :
    (cfg.port 0).selected = false ∧ cfg.live = true ∧ ((State.port { cfg with powered := false } 3).selected = false) := by
  decide +kernel

theorem test_witness_HeaderArrivalAndFrameEnd :
    Reads 0 (reading 0 cfg) ∧ crc8 [0x21, 0, 0, 0] = crc8 [0x21, 0, 0, 0] ∧ writeCodes.contains 0x21 = true
      ∧ crc8 [0x21, 0, 0, 0] + 1 ≠ crc8 [0x21, 0, 0, 0]
      ∧ (∀ p ∈ [ParserState.wait, .header, .respond, .drain false],
          gives (.chipSelectRelease 0) (cfg.withPort 0 { cfg.port 0 with selected := true, parser := p })
            (fun t => (t.port 0).parser == .wait && !(t.port 0).frame) = true)
      ∧ State.live { reading 0 cfg with resetLow := true } = false := by decide +kernel

theorem test_witness_DiscardedFramesSetFrameCause :
    (∀ bk ∈ [([], 1), ([0x10, 0, 0, 0], 0), ([0x10, 0, 0, 0], 7)],
      gives (.frameDiscard 0 bk.1 bk.2) (reading 0 cfg) (fun t => (t.port 0).lastResult == .check) = true)
    ∧ gives (.frameDiscard 0 [] 0) (cfg.withPort 0 { cfg.port 0 with parser := .drain true }) (fun t => (t.port 0).frame) = true
    ∧ gives (.frameDiscard 0 [] 1) (writing 0 0x21 0 0 0 cfg) (fun t => (t.port 0).frame) = true
    ∧ gives (.frameDiscard 0 [0] 0) (writing 0 0x21 0 0 0 cfg) (fun t => (t.port 0).frame) = true
    ∧ gives (.frameDiscard 0 [0, 0, 0, 0, 0xD2] 0) (writing 0 0x20 0 1 0 cfg) (fun t => (t.port 0).frame) = true
    ∧ readCodes.contains 0x16 = false ∧ writeCodes.contains 0x16 = false ∧ Reads 0 (reading 0 cfg) := by decide +kernel

/-! ## Witnesses: requests -/

theorem test_witness_StatusBlockReportsThePort : Reads 0 (reading 0 busy) := by decide +kernel

theorem test_witness_TakeReturnsTheHeadEntry :
    Reads 3 (reading 3 State.reset) ∧ State.reset.exchange = .init
      ∧ Reads 3 (reading 3 (withQueue 3 [] cfg)) ∧ ((withQueue 3 [] cfg).port 3).queue = [] ∧ cfg.exchange ≠ .init
      ∧ ∀ e ∈ [Entry.published 127 0xFFFF 255 255, .stale 1 0, .recovered 2 1, .missed 3 2 .blocked,
          .ballot 4 .clear .cancelled, .switch 5 .dropped, .exchange 6 .halted, .timebase 7 .holdover],
        Reads 3 (reading 3 (withQueue 3 [e, .stale 0 0] cfg))
          ∧ ((reading 3 (withQueue 3 [e, .stale 0 0] cfg)).port 3).queue = e :: [.stale 0 0] := by decide +kernel

theorem test_witness_ReadWindowReturnsDescriptorAndWords :
    Reads 1 (reading 1 State.reset) ∧ State.reset.exchange = .init
      ∧ Reads 1 (reading 1 cfg) ∧ cfg.exchange ≠ .init
      ∧ ([((32 : Byte), (1 : Byte)), (31, 2), (0, 0), (0, 33)].all fun oc =>
          gives (.readWindow 1 oc.1 oc.2) (reading 1 cfg) fun t => (t.port 1).lastResult == .range) = true
      ∧ 1 ≤ (1 : Byte).toNat ∧ (31 : Byte).toNat + (1 : Byte).toNat ≤ 32 ∧ (0 : Byte).toNat + (32 : Byte).toNat ≤ 32
      ∧ gives (.readWindow 1 31 1) (reading 1 cfg) (fun t => (t.port 1).lastResult == .ok) = true
      ∧ ((cfg.port 1).desc.state ≠ .inProgress)
      ∧ gives (.readWindow 1 0 1) (reading 1 (cfg.setDescState 1 .inProgress)) (fun t => (t.port 1).lastResult == .windowBusy)
          = true := by decide +kernel

theorem test_witness_ReadRequestsReturnTheTableAndTheBallot :
    Reads 0 (reading 0 State.reset) ∧ State.reset.exchange = .init ∧ Reads 0 (reading 0 busy) ∧ busy.exchange ≠ .init
      ∧ ([((128 : Byte), (0 : Byte), Result.range), (127, 2, .range), (127, 1, .ok), (0, 0, .ok)].all fun ri =>
          gives (.readRecord 0 ri.1 ri.2.1) (reading 0 busy) fun t => (t.port 0).lastResult == ri.2.2) = true
      ∧ ([((2 : Byte), Result.range), (1, .ok), (0, .ok)].all fun i =>
          gives (.readHeader 0 i.1) (reading 0 busy) fun t => (t.port 0).lastResult == i.2) = true
      ∧ gives (.readBallot 0) (reading 0 (withBallot (ballotOf .stop #v[.yes, .no, .none, .yes]) busy))
          (fun t => (t.port 0).responseOut == withCheck [1, 2, 0, 0x49, 0x0F, 0, 50, 0, 0, 0, 0, 0]) = true := by
  decide +kernel

theorem test_witness_WriteWindowSetsItsWords :
    Writes 0 0x20 0 1 0 (writing 0 0x20 0 1 0 State.reset) ∧ State.reset.exchange = .init
      ∧ (∀ k : Nat, (List.replicate k (0x5A : Byte)).length = k)
      ∧ ([((32 : Byte), (1 : Byte), false), (31, 2, false), (0, 0, false), (0, 33, false), (31, 1, true), (0, 32, true)].all
          fun oc => decide (Writes 0 0x20 oc.1 oc.2.1 0 (writing 0 0x20 oc.1 oc.2.1 0 cfg))
            && decide (oc.1.toNat ≤ 31 ∧ 1 ≤ oc.2.1.toNat ∧ oc.2.1.toNat ≤ 32 ∧ oc.1.toNat + oc.2.1.toNat ≤ 32) == oc.2.2)
          = true
      ∧ (busy.lane (laneOf 0)).hold.isStage = true ∧ (cfg.lane (laneOf 0)).hold.isStage = false
      ∧ Writes 0 0x20 0 1 0 (writing 0 0x20 0 1 0 busy) := by
  refine ⟨by decide +kernel, by decide, fun k => List.length_replicate, by decide +kernel⟩

theorem test_write_window_sets_one_word :
    gives (.writeWindow 0 31 1 [1, 2, 3, 4] (crc8 [1, 2, 3, 4])) (writing 0 0x20 31 1 0 cfg)
      (fun t => (t.port 0).writeWindow[31] == 0x01020304#32 && (t.port 0).writeWindow[30] == 0) = true := by decide +kernel

theorem test_witness_StageStartsOrIsRefused :
    Writes 0 0x21 0 0 0 (writing 0 0x21 0 0 0 State.reset) ∧ State.reset.exchange = .init
      ∧ Writes 0 0x21 0 0 0 (writing 0 0x21 0 0 0 busy) ∧ (busy.lane (laneOf 0)).hold ≠ .idle
      ∧ (∀ x ∈ [(128 : Byte), 127, 1], ∀ r : RecNo, x.toNat = r.val → (withRecord .run published).activeDef r = none)
      ∧ (withRecord .run published).activeDef 0 = some def0 ∧ (withRecord .run published).runtime 0 = some published
      ∧ ((withRecord .run published).lane (laneOf 0)).hold = .idle ∧ def0.owner ≠ 1 ∧ def0.owner = 0
      ∧ (withRecord .halted published).exchange = .halted ∧ published.staging = .empty ∧ blocked.staging = .blocked
      ∧ ∀ rt ∈ [published, blocked, { published with staging := .ready }],
          gives (.stage 0 0) (writing 0 0x21 0 0 0 (withRecord .run rt))
            (fun t => (t.lane 0).hold == (if rt.staging = .blocked then .waiting 0 else .staging 0 0)) = true := by
  decide +kernel

theorem test_witness_FetchPinsAndCapturesOrIsRefused :
    Writes 1 0x22 0 0 0 (writing 1 0x22 0 0 0 State.reset) ∧ State.reset.exchange = .init
      ∧ Writes 1 0x22 0 0 0 (writing 1 0x22 0 0 0 busy) ∧ (busy.lane (laneOf 1)).hold ≠ .idle
      ∧ (∀ x ∈ [(128 : Byte), 127, 1], ∀ r : RecNo, x.toNat = r.val → (withRecord .run published).activeDef r = none)
      ∧ (withRecord .run published).activeDef 0 = some def0 ∧ (withRecord .run published).runtime 0 = some published
      ∧ def0.owner ≠ 2 ∧ def0.subscribers.getLsbD 2 = false ∧ def0.subscribers.getLsbD 1 = true
      ∧ Runtime.initial.version = 0 ∧ published.version ≠ 0 ∧ published.roles[(0 : Buf)] = .pub ∧ published.BuffersOk := by
  unfold Runtime.BuffersOk; decide +kernel

theorem test_witness_AttentionRequestsChangeCauses :
    Writes 0 0x23 31 0 0 (writing 0 0x23 31 0 0 State.reset) ∧ State.reset.exchange = .init
      ∧ ([((31 : Byte), Result.ok), (32, .range)].all fun a =>
          gives (.acknowledge 0 a.1) (writing 0 0x23 a.1 0 0 cfg) fun t => (t.port 0).lastResult == a.2) = true
      ∧ ([((31 : Byte), (1 : Byte), (15 : Byte), Result.ok), (0, 24, 0, .ok), (32, 1, 0, .range), (0, 0, 0, .range),
            (0, 25, 0, .range), (0, 1, 16, .range)].all fun a =>
          gives (.setAttention 0 a.1 a.2.1 a.2.2.1) (writing 0 0x24 a.1 a.2.1 a.2.2.1 cfg)
            fun t => (t.port 0).lastResult == a.2.2.2) = true := by decide +kernel

theorem test_acknowledge_clears_what_it_names :
    gives (.acknowledge 0 0x0C) (writing 0 0x23 0x0C 0 0
        (cfg.withPort 0 { cfg.port 0 with overflow := true, xfer := true, frame := true }))
      (fun t => !(t.port 0).overflow && !(t.port 0).xfer && (t.port 0).frame) = true := by decide +kernel

/-- A definition's bytes begin with 1, so a payload that does not is the layout of no definition. -/
theorem not_defBytes_of_head {p : List Byte} (h : p.head? ≠ some 1) (d : RecordDef) : p ≠ defBytes (some d) := by
  rintro rfl; exact h rfl

/-- A header's bytes begin with a mode code, so a payload that begins with 2 is the layout of no header. -/
theorem not_headerBytes_of_head {p : List Byte} (h : p.head? = some 2) (k : SchedHeader) : p ≠ headerBytes k := by
  rintro rfl; cases m : k.mode <;> simp [headerBytes, m, Mode.code, byteOf] at h

theorem test_witness_ShadowEditsChangeOnlyTheShadow :
    (State.members { cfg with members := 0b1110#4 }).getLsbD 0 = false ∧ cfg.members.getLsbD 0 = true
      ∧ State.reset.exchange = .init ∧ cfg.exchange ≠ .init ∧ cfg.switchPending = false ∧ cfg.ballot.current = none
      ∧ (withBallot (ballotOf .commit (Vector.replicate 4 .none)) cfg).openItem = some .commit
      ∧ (∀ code ∈ [(0x30 : Byte), 0x31, 0x32, 0x33], Writes 0 code 127 0 0 (writing 0 code 127 0 0 cfg))
      ∧ (128 : Byte).toNat = 128 ∧ (127 : Byte).toNat = (127 : RecNo).val
      ∧ (∀ d, d.inRange = true → (Vector.replicate 12 (0xFF : Byte)).toList ≠ defBytes (some d))
      ∧ (∀ d ∈ [def0, def127], d.inRange = true ∧ (defBytes (some d)).length = 12)
      ∧ (∀ h, h.inRange = true → (Vector.replicate 16 (2 : Byte)).toList ≠ headerBytes h)
      ∧ image0.header.inRange = true ∧ (headerBytes image0.header).length = 16 := by
  refine ⟨by decide, by decide, by decide, by decide, by decide, by decide, by decide +kernel, by decide +kernel, by decide,
    by decide, fun d _ => not_defBytes_of_head (by decide) d, by decide +kernel,
    fun h _ => not_headerBytes_of_head (by decide) h, by decide +kernel, by decide +kernel⟩

theorem test_witness_PayloadLayoutsRoundTrip :
    (∀ d ∈ [def0, def127], parseDef (Vector.ofFn fun i => (defBytes (some d)).getD i 0) = some d)
      ∧ parseHeader (Vector.ofFn fun i => (headerBytes image0.header).getD i 0) = some image0.header := by decide +kernel

/-! ## Witnesses: votes, ballots, exchange states -/

theorem test_witness_StateChangesCancelAndNotify :
    cfg.ballot.current = none
      ∧ (withBallot (ballotOf .start (Vector.replicate 4 .none)) cfg).ballot.current
          = some (ballotOf .start (Vector.replicate 4 .none))
      ∧ Item.start.allowedIn .armed = false ∧ Item.commit.allowedIn .armed = true := by decide +kernel

theorem test_witness_VoteRefusalsInOrder :
    (let vote (n : Port) (i c : Byte) (s : State) (r : Result) : Bool :=
        decide (Writes n 0x34 i c 0 (writing n 0x34 i c 0 s))
          && gives (.vote n i c) (writing n 0x34 i c 0 s) fun t => (t.port n).lastResult == r
      let voted : State := withBallot (ballotOf .commit #v[.yes, .none, .none, .none]) cfg
      [vote 0 1 1 { cfg with members := 0b1110#4 } .notMember, vote 0 1 1 State.reset .notReady, vote 0 0 1 cfg .range,
        vote 0 6 1 cfg .range, vote 0 5 0 cfg .range, vote 0 1 3 cfg .range, vote 0 1 1 voted .ballotBusy,
        vote 1 3 1 (voted.setExchange .halted) .wrongState, vote 0 3 2 voted .alreadyVoted, vote 0 2 1 cfg .wrongState,
        vote 0 1 2 cfg .noBallot].all id) = true := by decide +kernel

theorem test_witness_YesVoteOpensBallot :
    Writes 3 0x34 (byteOf Item.commit.code) 1 0 (writing 3 0x34 3 1 0 cfg) ∧ cfg.members.getLsbD 3 = true
      ∧ cfg.exchange ≠ .init ∧ Item.commit.allowedIn cfg.exchange = true ∧ cfg.ballot.current = none
      ∧ (State.validate { cfg with shadow := { cfg.shadow with header := { cfg.shadow.header with lockTol := 21 } } })
          = some (.toleranceOrder, 0)
      ∧ cfg.validate = none ∧ 1 < cfg.memberCount ∧ (State.memberCount { cfg with members := 0b1000#4 }) = 1
      ∧ Item.start ≠ .commit := by decide +kernel

theorem test_a_single_member_starts_at_once :
    gives (.vote 3 1 1) (writing 3 0x34 1 1 0 { cfg with members := 0b1000#4 }) (fun t => t.exchange == .armed) = true := by
  decide +kernel

theorem test_witness_VoteIsRecordedAndDecided :
    let b (v : Vector Vote 4) : OpenBallot := ballotOf .start v
    Writes 3 0x34 (byteOf Item.start.code) 2 0 (writing 3 0x34 1 2 0 (withBallot (b #v[.yes, .yes, .yes, .none]) cfg))
      ∧ cfg.members.getLsbD 3 = true ∧ Item.start.allowedIn cfg.exchange = true
      ∧ (b #v[.yes, .yes, .yes, .none]).votes[(3 : Port)] = Vote.none
      ∧ cfg.decision (b #v[.yes, .yes, .none, .yes]) = none
      ∧ cfg.decision (b #v[.yes, .yes, .yes, .no]) = some (.failed, .veto)
      ∧ cfg.decision (b #v[.yes, .yes, .yes, .yes]) = some (.passed, .none) := by decide +kernel

theorem test_witness_BallotRulesDecide :
    Item.clear ≠ .stop
      ∧ (∃ n : Port, cfg.members.getLsbD n.val = true ∧ (ballotOf .clear #v[.yes, .yes, .yes, .no]).votes[n] = .no)
      ∧ (∀ n : Port, cfg.members.getLsbD n.val = true → (ballotOf .clear #v[.yes, .yes, .yes, .yes]).votes[n] = .yes)
      ∧ (∀ n : Port, cfg.members.getLsbD n.val = true → (ballotOf .clear #v[.yes, .yes, .yes, .none]).votes[n] ≠ .no)
      ∧ (∃ n : Port, cfg.members.getLsbD n.val = true ∧ (ballotOf .clear #v[.yes, .yes, .yes, .none]).votes[n] = Vote.none)
      ∧ cfg.memberCount = 4
      ∧ cfg.votesCast (ballotOf .stop #v[.yes, .yes, .yes, .no]) .yes = 3
      ∧ cfg.votesCast (ballotOf .stop #v[.yes, .yes, .no, .no]) .no = 2
      ∧ cfg.decision (ballotOf .stop #v[.yes, .yes, .yes, .no]) = some (.passed, .none)
      ∧ cfg.decision (ballotOf .stop #v[.yes, .yes, .no, .no]) = some (.failed, .majorityLost)
      ∧ cfg.decision (ballotOf .stop #v[.yes, .yes, .no, .none]) = none := by decide +kernel

theorem test_witness_PassedBallotsHaveTheirEffect :
    ∀ x ∈ [ExState.config, .armed, .run, .hold, .halted], ∀ p : Bool,
      (State.ballot { withRecord x published with switchPending := p }).current = none
        ∧ (State.switchPending { withRecord x published with switchPending := p }) = p
        ∧ (State.exchange { withRecord x published with switchPending := p }) = x := by decide +kernel

/-- Two records on the same words; record 0's point at the last tick. -/
def overlapping : State :=
  { cfg with shadow := { cfg.shadow with
      defs := (cfg.shadow.defs.set 0 (some { def0 with point := 999 })).set 1 (some { def0 with base := 5 }) } }

theorem test_witness_ValidationReportsTheFirstFailure :
    overlapping.shadowDef 0 = some { def0 with point := 999 } ∧ overlapping.shadowDef 1 = some { def0 with base := 5 }
      ∧ (0 + 3 * 2 = 6 ∧ 5 < 6) ∧ overlapping.validate = some (.overlap, 0)
      ∧ (∀ j : RecNo, j ≠ 0 → image0.defs[j] = none)
      ∧ (State.validate { cfg with shadow := { image0 with defs := image0.defs.set 0 (some { def0 with point := 1000 }) } })
          = some (.pointBeyondCycle, 0)
      ∧ (State.validate { cfg with shadow := { image0 with defs := image0.defs.set 0 (some { def0 with point := 999 }) } })
          = none
      ∧ (State.validate { cfg with exchange := .run, shadow := { image0 with header := { image0.header with nAcq := 5 } } })
          = some (.timebaseLocked, 0)
      ∧ (State.validate { cfg with shadow := { image0 with header := { image0.header with nAcq := 5 } } }) = none
      ∧ (State.validate { cfg with shadow := { image0 with header := { image0.header with lockTol := 21 } } })
          = some (.toleranceOrder, 0)
      ∧ (State.validate { cfg with shadow := { image0 with header := { image0.header with lockTol := 20 } } }) = none
      ∧ (State.validate { cfg with shadow := { image0 with header := { image0.header with acqTol := 100 } } })
          = some (.toleranceOrder, 0)
      ∧ (State.validate { cfg with shadow := { image0 with header := { image0.header with acqTol := 99 } } }) = none
      ∧ (State.validate { cfg with shadow := { image0 with header := { image0.header with cycleTicks := 400 } } })
          = some (.toleranceOrder, 0)
      ∧ (State.validate { cfg with shadow := { image0 with header := { image0.header with cycleTicks := 401 } } }) = none := by
  decide +kernel

theorem test_witness_FreezeHaltsTheExchange :
    Writes 2 0x40 0 0 0 (writing 2 0x40 0 0 0 busy) ∧ State.reset.exchange = .init
      ∧ (withRecord .halted published).exchange = .halted ∧ busy.exchange ≠ .halted ∧ busy.exchange ≠ .init
      ∧ (openLine .idle busy).live = true ∧ (openLine .idle busy).ml.line ≠ .responding
      ∧ (openLine .idle busy).ml.parser = .idle ∧ (openLine .idle busy).ml.access = .opened
      ∧ (State.ml { cfg with ml := { cfg.ml with access := .limited } }).access = .limited
      ∧ (busy.lane (laneOf 0)).hold = .staging 0 1
      ∧ ((holding 0 (.waiting 0) (withRecord .run { blocked with stageWaiting := true })).lane (laneOf 0)).hold = .waiting 0
      ∧ blocked.staging = .blocked ∧ Runtime.BuffersOk { blocked with stageWaiting := true }
      ∧ Runtime.BuffersOk { published with staging := .filling, pins := #v[2, 0, 0] } := by
  unfold Runtime.BuffersOk; decide +kernel

theorem test_freeze_aborts_the_stage_only :
    gives (.freeze 2) (writing 2 0x40 0 0 0 busy) (fun t => (t.lane 0) == ⟨.idle, .abortedFreeze⟩ && (t.port 0).xfer
      && (t.lane 1).hold == .fetching 0 0 0 && (t.lane 4).hold == .fetching 0 0 0 && t.exchange == .halted) = true := by
  decide +kernel

theorem test_witness_PortResetResetsItsPort :
    (∀ n : Port, Writes n 0x4F 0 0 0 (writing n 0x4F 0 0 0 busy))
      ∧ (busy.lane (laneOf 2)).hold = .idle ∧ (busy.lane (laneOf 0)).hold = .staging 0 1
      ∧ (busy.lane (laneOf 1)).hold = .fetching 0 0 0
      ∧ ((holding 0 (.waiting 0) (withRecord .run { blocked with stageWaiting := true })).lane (laneOf 0)).hold = .waiting 0
      ∧ busy.runtime 0 = some { published with staging := .filling, pins := #v[2, 0, 0] } := by decide +kernel

theorem test_port_reset_withdraws_the_vote :
    gives (.portReset 0) (writing 0 0x4F 0 0 0 (withBallot (ballotOf .start #v[.no, .yes, .yes, .yes]) cfg))
      (fun t => t.ballot.current == some (ballotOf .start #v[.none, .yes, .yes, .yes])) = true := by decide +kernel

/-- The BALLOT note of a passing CLEAR that a full queue discards sets OVERFLOW, which the CLEAR leaves set (log entry 29). -/
theorem test_clear_keeps_the_overflow_of_its_ballot_note :
    gives (.vote 0 5 1) (writing 0 0x34 5 1 0 (withQueue 1 (List.replicate 24 (.exchange 0 .config))
        (withBallot (ballotOf .clear #v[.none, .yes, .yes, .yes]) cfg)))
      (fun t => t.exchange == .init && (t.port 1).overflow && (t.port 1).lost == 0
        && (t.port 1).queue == [.exchange 0 .init]) = true := by decide +kernel

/-! ## Witnesses: transfers -/

theorem test_witness_ArbiterGrantsInCyclicOrder :
    (∀ l, cfg.wantsAccess l = false) ∧ busy.wantsAccess 0 = true ∧ busy.wantsAccess 1 = true ∧ busy.wantsAccess 4 = true
      ∧ busy.nextGrant = some 0 ∧ (busy.setArbiter 0).nextGrant = some 1 ∧ (busy.setArbiter 1).nextGrant = some 4 := by
  decide +kernel

theorem test_witness_WordAccessMovesOneWord :
    busy.live = true ∧ busy.StoreOk ∧ busy.activeDef 0 = some def0 ∧ def0.base + 3 * def0.length ≤ 8192 ∧ def0.length ≤ 32
      ∧ def127.base + 3 * def127.length = 8192 ∧ def127.length = 32
      ∧ busy.nextGrant = some (laneOf 0) ∧ (busy.lane (laneOf 0)).hold = .staging 0 1
      ∧ busy.runtime 0 = some { published with staging := .filling, pins := #v[2, 0, 0] }
      ∧ Runtime.BuffersOk { published with staging := .filling, pins := #v[2, 0, 0] } ∧ published.roles[(1 : Buf)] = .stg
      ∧ (busy.setArbiter 0).nextGrant = some (laneOf 1) ∧ (busy.lane (laneOf 1)).hold = .fetching 0 0 0
      ∧ (busy.setArbiter 1).nextGrant = some lm ∧ (busy.lane lm).hold = .fetching 0 0 0
      ∧ 0 + 1 < def0.length ∧ def0.length ≤ 1 + 1
      ∧ gives .wordAccess (holding 0 (.staging 0 0) busy) (fun t => (t.lane 0).hold == .staging 0 1) = true
      ∧ gives .wordAccess ((holding 1 (.fetching 0 1 0) busy).setArbiter 0)
          (fun t => t.lane 1 == ⟨.idle, .ok⟩ && (t.port 1).desc.state == .valid && (t.port 1).xfer) = true
      ∧ gives .wordAccess ((holding 4 (.fetching 0 1 0) busy).setArbiter 1)
          (fun t => t.lane 4 == ⟨.idle, .ok⟩ && (t.runtime 0).map (·.pins) == some #v[1, 0, 0]) = true := by
  unfold Runtime.BuffersOk State.StoreOk; decide +kernel

/-- The STAGE's last word ends it, and a FREEZE that comes after it finds it ended (R95). -/
theorem test_stage_ends_with_its_last_word :
    gives .wordAccess (busy.withPort 0 { busy.port 0 with writeWindow := Vector.replicate 32 7 })
      (fun t => t.store == [(3, 7)] && t.arbiter == 0 && t.lane 0 == ⟨.idle, .ok⟩ && (t.port 0).xfer
        && (t.runtime 0).map (·.staging) == some .ready
        && gives .freezeCommand (openLine .idle t) fun u =>
            u.exchange == .halted && (u.runtime 0).map (·.staging) == some .ready && u.lane 0 == ⟨.idle, .ok⟩) = true := by
  decide +kernel

theorem test_witness_TransfersEndAndFreeBuffers :
    let done : State := holding 4 (.fetching 0 2 0) (holding 1 (.fetching 0 2 0) (holding 0 (.staging 0 2) busy))
    let freed : Runtime := { blocked with stageWaiting := true }
    done.live = true ∧ done.activeDef 0 = some def0 ∧ def0.length = 2
      ∧ done.runtime 0 = some { published with staging := .filling, pins := #v[2, 0, 0] }
      ∧ (done.lane (laneOf 0)).hold = .staging 0 2 ∧ (done.lane (laneOf 1)).hold = .fetching 0 2 0
      ∧ (done.lane lm).hold = .fetching 0 2 0 ∧ published.staging ≠ .blocked
      ∧ (withRecord .run blocked).runtime 0 = some blocked ∧ blocked.roles[(1 : Buf)] = .retired ∧ blocked.pins[(1 : Buf)] = 1
      ∧ blocked.stageWaiting = false ∧ (withRecord .run freed).runtime 0 = some freed
      ∧ ((holding 0 (.waiting 0) (withRecord .run freed)).lane (laneOf def0.owner)).hold = .waiting 0
      ∧ (holding 0 (.waiting 0) (withRecord .run { freed with pins := #v[0, 0, 1] })).runtime 0
          = some { freed with pins := #v[0, 0, 1] }
      ∧ freed.roles[(0 : Buf)] = .pub := by decide +kernel

/-- The laws of the transfers hold where transfers are under way. -/
theorem busy_TransfersOk : busy.TransfersOk := by
  have hd : ∀ r : RecNo, r ≠ 0 → busy.activeDef r = none ∧ busy.runtime r = none := by decide +kernel
  have hd0 : busy.activeDef 0 = some def0 := by decide +kernel
  have hr0 : busy.runtime 0 = some { published with staging := .filling, pins := #v[2, 0, 0] } := by decide +kernel
  refine ⟨fun l => ?_, fun n => ?_, fun r => ?_, fun r rt h => ?_, by decide +kernel⟩
  · have h : (busy.lane l).hold = .idle ∨ (busy.lane l).hold = .fetching 0 0 0 ∨ l = 0 ∧ (busy.lane l).hold = .staging 0 1 := by
      revert l; decide +kernel
    unfold State.LaneOk
    rcases h with h | h | ⟨h0, h⟩ <;> rw [h]
    · trivial
    · exact ⟨def0, hd0, by decide⟩
    · exact ⟨def0, _, hd0, hr0, h0, rfl, by decide⟩
  · refine ⟨by revert n; decide +kernel, fun r i b h => ?_⟩
    have h1 : n = 1 := by
      have : ∀ m : Port, m ≠ 1 → (busy.lane (laneOf m)).hold.isFetch = false := by decide +kernel
      by_contra e
      have := this n e
      rw [h] at this; cases this
    subst h1
    have hf : (busy.lane (laneOf 1)).hold = .fetching 0 0 0 := by decide +kernel
    rw [hf] at h; cases h
    exact ⟨by decide +kernel, def0, hd0, by decide +kernel⟩
  · by_cases e : r = 0
    · subst e; unfold State.RuntimeOk; rw [hd0, hr0]
      exact ⟨fun _ => ⟨1, by decide +kernel⟩, by decide +kernel, by decide +kernel⟩
    · unfold State.RuntimeOk; rw [(hd r e).1, (hd r e).2]; trivial
  · by_cases e : r = 0
    · subst e; rw [hr0] at h; cases h; unfold Runtime.BuffersOk; decide +kernel
    · rw [(hd r e).2] at h; cases h

/-- Record 0 alone is a validated image. -/
theorem image0_Validated : image0.Validated := by unfold Image.Validated; decide +kernel

theorem test_witness_HeldStageKeepsItsWriteWindow :
    gives .wordAccess busy (fun t => t.arbiter == 0) = true ∧ (busy.lane (laneOf 0)).hold.isStage = true
      ∧ Instr.wordAccess ≠ .resetN ∧ Instr.wordAccess ≠ .portReset 0 := by decide +kernel

theorem test_witness_PinnedBuffersKeepTheirWords :
    gives .wordAccess busy (fun t => t.arbiter == 0) = true ∧ busy.StoreOk ∧ busy.TransfersOk ∧ busy.TableOk
      ∧ busy.active.Validated ∧ busy.activeDef 0 = some def0
      ∧ busy.runtime 0 = some { published with staging := .filling, pins := #v[2, 0, 0] }
      ∧ (1 : Nat) < def0.length :=
  ⟨by decide +kernel, by unfold State.StoreOk; decide +kernel, busy_TransfersOk, test_witness_CommandsAnswerNextState.2,
    image0_Validated, by decide +kernel, by decide +kernel, by decide⟩

/-! ## Witnesses: switch, ticks, publication, queues -/

theorem test_witness_SwitchInstallsTheShadow :
    cfg.live = true ∧ (State.switchPending { cfg with switchPending := true }) = true ∧ cfg.exchange = .config
      ∧ (withRecord .run published).exchange ≠ .config := by
  decide +kernel

/-- A flag set after a cycle start waits for the next one, also before tick 0 has been handed (R103, R135). -/
theorem test_pending_switch_waits_for_the_cycle_start :
    ([ExState.armed, .run, .hold, .stopping].all fun x =>
      gives .switch { withRecord x published with switchPending := true } fun t => t.switchPending) = true := by
  decide +kernel

/-- A cycle start whose switch drops record 0 ends the transfers on it without a claim. -/
theorem test_switch_aborts_what_it_drops :
    gives .cycleStart (lastTick { busy with shadow := Image.reset, switchPending := true })
      (fun t => t.lanes.toList.map (·.result) == [.abortedSwitch, .abortedSwitch, .none, .none, .abortedSwitch]
        && t.runtime 0 == none && (t.port 0).xfer && (t.port 1).desc.state == .aborted && !t.switchPending) = true := by
  decide +kernel

/-- With no ballot open and no switch pending the ballot's law holds in a working part. -/
theorem ballotOk_of_quiet {s : State} (h : s.ballot.current = none) (hf : s.switchPending = false) (hr : s.resetLow = false) :
    s.BallotOk :=
  ⟨fun b hb => (by rw [h] at hb; cases hb), fun e => (by rw [hf] at e; cases e), fun e => (by rw [hr] at e; cases e)⟩

/-- SYNCOUT is high since tick 0, and tick k has been handed. -/
def pulsing (k : Nat) : State :=
  { cfg with tb := { cfg.tb with tickCount := k, tickHanded := true, syncOut := true, syncOutAge := k } }

/-- SYNCOUT is high in ticks 0 to 7: its end is not due in tick 6, and neither a TICK nor time counts tick 8 before it (R145). -/
theorem test_syncout_is_high_for_eight_ticks :
    gives .syncoutPulseEnd (pulsing 6) (· == pulsing 6) = true ∧ gives .tick (pulsing 6) (· == pulsing 7) = true
      ∧ gives .tick (pulsing 7) (· == pulsing 7) = true ∧ (pulsing 7).passTime = pulsing 7
      ∧ gives .syncoutPulseEnd (pulsing 7) (fun t => gives .tick t fun u => u.tb.tickCount == 8 && !u.tb.syncOut) = true := by
  decide +kernel

theorem test_witness_CycleStartDoesItsWorkInOrder :
    (lastTick (withRecord .armed published)).live = true ∧ (lastTick (withRecord .armed published)).tb.running = true
      ∧ (lastTick (withRecord .armed published)).tb.tickHanded = true
      ∧ (lastTick (withRecord .armed published)).active.header.cycleTicks = 999 + 1
      ∧ (lastTick (withRecord .armed published)).BallotOk
      ∧ gives .syncoutPulseEnd (pulsing 7) (fun t => !t.tb.syncOut && t.tb.syncOutAge == 0) = true
      ∧ (pulsing 6).tb.syncOutAge < 7
      ∧ gives .cycleStart (lastTick (withRecord .armed published))
          (fun t => t.exchange == .run && t.tb.cycleNumber == 1 && t.tb.syncOut) = true :=
  ⟨by decide +kernel, by decide +kernel, by decide +kernel, by decide +kernel,
    ballotOk_of_quiet (by decide +kernel) (by decide +kernel) (by decide +kernel), by decide +kernel, by decide +kernel,
    by decide +kernel⟩

/-- The laws of the records where record 0 alone is defined. -/
theorem withRecord_RecordsOk (x : ExState) {rt : Runtime} (h : rt.CountsOk 2) : (withRecord x rt).RecordsOk := by
  have h0 : (withRecord x rt).activeDef 0 = some def0 := by simp [withRecord, State.activeDef, image0]
  have h1 : (withRecord x rt).runtime 0 = some rt := by simp [withRecord, State.runtime]
  have hi : image0.InRange := by
    refine ⟨fun r d e => ?_, by decide +kernel⟩
    by_cases hr : r = 0
    · subst hr; cases e; decide +kernel
    · have : ∀ r : RecNo, r ≠ 0 → image0.defs[r] = none := by decide +kernel
      rw [this r hr] at e; cases e
  refine ⟨⟨hi, hi⟩, fun r => ?_⟩
  by_cases hr : r = 0
  · subst hr; rw [h0, h1]; exact h
  · have hn : (withRecord x rt).activeDef r = none := by
      have : ∀ r : RecNo, r ≠ 0 → image0.defs[r] = none := by decide +kernel
      exact this r hr
    have hm : (withRecord x rt).runtime r = none := by
      have : ∀ r : RecNo, cfg.runtimes[r] = none := by decide +kernel
      show (cfg.runtimes.set 0 (some rt))[r.val] = none
      rw [Vector.getElem_set_ne]
      · exact this r
      · exact fun e => hr (Fin.ext e.symm)
    rw [hn, hm]; trivial

theorem test_witness_TickTakesSelectedPoints :
    (withRecord .run published).live = true ∧ (withRecord .run published).tb.running = true
      ∧ (withRecord .run published).tb.tickHanded = false ∧ (withRecord .run published).missedDue = false
      ∧ (withRecord .run published).RecordsOk
      ∧ (State.tb { cfg with tb := { cfg.tb with tickCount := 998, tickHanded := true } }).tickCount + 1
          < cfg.active.header.cycleTicks
      ∧ (State.tb (State.passTime { cfg with tb := { cfg.tb with tickCount := 998, tickHanded := true } })).tickCount = 999
      ∧ (lastTick cfg).passTime.tb.tickCount = 999 :=
  ⟨by decide +kernel, by decide +kernel, by decide +kernel, by decide +kernel,
    withRecord_RecordsOk _ (by unfold Runtime.CountsOk; decide +kernel), by decide +kernel, by decide +kernel,
    by decide +kernel⟩

/-- RUN on a follower in LOCKED, record 0 READY at its point, which is tick 100, with tick 99 handed. -/
def nearPoint : State :=
  { withRecord .run { published with staging := .ready } with
    active := { Image.reset with defs := Image.reset.defs.set 0 (some { def0 with point := 100 }),
                                 header := { Image.reset.header with mode := .follower } },
    tb := (follower .locked 99).tb }

/-- R40, both orders at one tick: points taken before the missed-pulse event of that tick have their outcome in RUN; a pulse that
makes a phase step, or a missed-pulse event, may also come before them, and the step then leaves them untaken in HOLD. -/
theorem test_points_and_pulses_of_one_tick_in_either_order :
    gives .tick nearPoint (fun t => (t.runtime 0).map (·.version) == some 2 && t.missedDue) = true
      ∧ (nearPoint.passTime.missedDue && !nearPoint.passTime.tb.tickHanded) = true
      ∧ gives .missedPulseEvent nearPoint.passTime (fun t => t.tb.discipline == .holdover
          && gives .tick t fun u => (u.runtime 0).map (·.version) == some 2) = true
      ∧ gives .syncPulse nearPoint.passTime (fun t => t.exchange == .hold && t.tb.tickCount == 0
          && gives .tick t fun u => (u.runtime 0).map (·.version) == some 1) = true := by decide +kernel

/-- A READY record is published at its tick: rotation, version, the subscriber's entry. -/
theorem test_tick_publishes_a_ready_record :
    gives .tick (withQueue 1 [] (withRecord .run { Runtime.initial with staging := .ready }))
      (fun t => t.runtime 0 == some { Runtime.initial with version := 1, health := .fresh, roles := #v[.stg, .pub, .retired] }
        && (t.port 1).queue == [.published 0 1 0 1] && t.tb.tickHanded) = true := by decide +kernel

/-- A miss at the miss limit makes the record STALE: MISSED and then STALE to the owner, STALE to the subscriber. -/
theorem test_tick_counts_a_miss :
    gives .tick (withQueue 0 [] (withQueue 1 [] (withRecord .stopping { published with missCount := 1 })))
      (fun t => t.runtime 0 == some { published with missCount := 2, health := .stale }
        && (t.port 0).queue == [.missed 0 0 .empty, .stale 0 0] && (t.port 1).queue == [.stale 0 0]) = true := by
  decide +kernel

theorem test_witness_PublicationRotatesAndNumbers :
    published.roles[(0 : Buf)] = .pub ∧ published.roles[(1 : Buf)] = .stg ∧ published.roles[(2 : Buf)] = .retired
      ∧ published.pins[(0 : Buf)] = 0 ∧ (Runtime.pins { published with pins := #v[1, 0, 0] })[(0 : Buf)] ≠ 0
      ∧ (Runtime.pins { published with pins := #v[1, 0, 1] })[(2 : Buf)] ≠ 0
      ∧ (65534#16).toNat < 65535 ∧ (65535#16).toNat = 65535
      ∧ (Runtime.publish { published with version := 65535#16 } 9).version = 1 := by decide +kernel

theorem test_witness_QueuesCoalesceTakeOrLose :
    let full (k : Nat) : PortState := { PortState.reset with queue := List.replicate k (.stale 0 0) }
    let one : PortState := { PortState.reset with queue := [.stale 0 0, .published 127 7 1 255, .stale 1 1] }
    one.queue = [.stale 0 0] ++ Entry.published 127 7 1 255 :: [.stale 1 1]
      ∧ [Entry.stale 0 0].countP (Entry.isPublishedOf 127) = 0
      ∧ (one.accept (.published 127 8 2 1)).queue = [.stale 0 0, .published 127 8 2 255, .stale 1 1]
      ∧ (full 23).queue.length < 24 ∧ 24 ≤ (full 24).queue.length
      ∧ (∀ e ∈ [Entry.ballot 0 .start .passed, .switch 0 .done, .exchange 0 .run, .timebase 0 .seek],
          (PortState.accept { one with noteMask := 0 } e) = { one with noteMask := 0 })
      ∧ ((full 23).accept (.published 0 1 1 1)).queue.length = 24
      ∧ ((full 24).accept (.published 0 1 1 1)).lost = 1
      ∧ (PortState.accept { full 24 with lost := 255 } (.stale 1 1)).lost = 255 := by decide +kernel

theorem test_queue_and_watermark_causes :
    (PortState.causes { PortState.reset with watermark := 1 }) = 0b00011#5 ∧ PortState.reset.causes = 0b00001#5
      ∧ PortState.reset.atnLow = true ∧ (PortState.atnLow { PortState.reset with queue := [] }) = false := by decide +kernel

/-! ## Witnesses: discipline -/

theorem test_witness_PhaseErrorAndCredits :
    ((499 : Int) < (1000 : Nat) - (1000 : Nat) / 2) ∧ ((1000 : Nat) - (1000 : Nat) / 2 ≤ (500 : Int))
      ∧ ((500 : Int) < (1001 : Nat) - (1001 : Nat) / 2) ∧ ((1001 : Nat) - (1001 : Nat) / 2 ≤ (501 : Int))
      ∧ Timebase.phaseError { cfg.tb with tickCount := 500 } 1000 = -500
      ∧ Timebase.phaseError { cfg.tb with tickCount := 500 } 1001 = 500
      ∧ (cfg.tb.credit 0).startCredit = true ∧ (cfg.tb.credit (-1)).nextCredit = true := by decide +kernel

theorem test_witness_DisciplineChangesAreReported :
    cfg.BallotOk ∧ cfg.tb.discipline = .master ∧ (follower .seek 0).tb.discipline = .seek
      ∧ (follower .locked 0).tb.discipline ≠ .acquire ∧ (withRecord .run published).exchange = .run
      ∧ (withRecord .stopping published).exchange = .stopping
      ∧ (State.BallotOk { withRecord .stopping published with switchPending := true })
      ∧ (State.BallotOk { withRecord .armed published with switchPending := true }) := by
  refine ⟨ballotOk_of_quiet (by decide) (by decide) (by decide), by decide, by decide, by decide, by decide, by decide,
    ⟨fun b h => ?_, by decide +kernel, by decide +kernel⟩, ⟨fun b h => ?_, by decide +kernel, by decide +kernel⟩⟩ <;> cases h

/-- A follower with its acquire run and lock run at k. -/
def run (d : Discipline) (k tick : Nat) : State :=
  { follower d tick with tb := { (follower d tick).tb with acquireRun := k, lockRun := k } }

/-- A missed-pulse event at tick SYNC_WIN leaves this discipline. -/
def missGives (d : Discipline) (missed hold : Nat) (e : Discipline) : Bool :=
  gives .missedPulseEvent { follower d 100 with tb := { (follower d 100).tb with missedRun := missed, holdoverCount := hold } }
    fun t => t.tb.discipline == e

/-- A pulse leaves this discipline and this trim. -/
def pulseGives (s : State) (d : Discipline) (trim : Int) : Bool :=
  gives .syncPulse s fun t => t.tb.discipline == d && t.tb.trim == trim

theorem test_witness_PulsesAreJudgedByDiscipline :
    (cfg.live = true ∧ cfg.tb.running = true ∧ cfg.active.header.mode = .master)
      ∧ ((follower .seek 0).live = true ∧ (follower .seek 0).tb.running = true
          ∧ (follower .seek 0).active.header.mode = .follower)
      ∧ pulseGives (follower .seek 700) .acquire 0 = true
      ∧ (∀ d ∈ [Discipline.acquire, .track, .locked, .holdover],
          gives .syncPulse (follower d 101) (fun t => t.tb.discipline == d && t.tb.spurious == 1) = true)
      ∧ (pulseGives (run .acquire 2 20) .acquire (-160) = true ∧ pulseGives (run .acquire 3 20) .track (-160) = true
          ∧ pulseGives (run .acquire 3 21) .acquire (-168) = true ∧ pulseGives (run .acquire 3 900) .acquire 800 = true
          ∧ pulseGives (run .track 14 2) .track (-2) = true ∧ pulseGives (run .track 15 2) .locked (-2) = true
          ∧ pulseGives (run .track 15 3) .track (-3) = true ∧ pulseGives (run .track 15 20) .track (-20) = true
          ∧ pulseGives (run .track 15 21) .acquire (-21) = true ∧ pulseGives (run .locked 0 998) .locked 2 = true
          ∧ pulseGives (run .locked 0 997) .track 3 = true ∧ pulseGives (run .locked 0 980) .track 20 = true
          ∧ pulseGives (run .locked 0 979) .acquire 21 = true ∧ pulseGives (run .holdover 0 20) .track 0 = true
          ∧ pulseGives (run .holdover 0 21) .acquire 0 = true ∧ pulseGives (run .acquire 0 100) .acquire (-800) = true) := by
  decide +kernel

theorem test_witness_MissedPulsesMoveTheDiscipline :
    (follower .acquire 100).live = true ∧ (follower .acquire 100).tb.running = true
      ∧ (follower .acquire 100).tb.tickCount = (follower .acquire 100).active.header.syncWin
      ∧ (follower .acquire 100).tb.startCredit = false ∧ (follower .acquire 100).tb.missedMade = false
      ∧ (missGives .acquire 1 0 .acquire = true ∧ missGives .acquire 2 0 .seek = true ∧ missGives .track 0 0 .holdover = true
          ∧ missGives .locked 0 0 .holdover = true ∧ missGives .holdover 0 30 .holdover = true
          ∧ missGives .holdover 0 31 .seek = true) := by decide +kernel

theorem test_witness_ClosesNotifyAndTheTimerExpires :
    cfg.live = true
      ∧ (withBallot { ballotOf .start (Vector.replicate 4 .none) with elapsed := 49 } cfg).ballot.current
          = some { ballotOf .start (Vector.replicate 4 .none) with elapsed := 49 }
      ∧ gives .ballotTimerTick (withBallot { ballotOf .start (Vector.replicate 4 .none) with elapsed := 49 } cfg)
          (fun t => t.ballot.current.map (·.elapsed) == some 50) = true
      ∧ gives .ballotExpiry (withBallot { ballotOf .start (Vector.replicate 4 .none) with elapsed := 50 } cfg)
          (fun t => t.ballot == ⟨none, ⟨some .start, some .expired, .none, 0⟩⟩) = true := by decide +kernel

/-! ## Witnesses: maintenance line and option store -/

/-- Code bytes kept, with a stored code of eight times 7. -/
def coded (kept : List Byte) : State :=
  { cfg with ml := { cfg.ml with kept := kept, storedCode := some (Vector.replicate 8 7) } }

theorem test_witness_LineEventsAndCodeEntry :
    cfg.live = true ∧ cfg.ml.Free ∧ (MLine.Free { cfg.ml with line := .responding, sent := .ownBreak }) ∧ cfg.ml.access = .closed ∧ cfg.ml.parser = .idle
      ∧ (openLine .answering cfg).ml.parser = .answering
      ∧ gives .collision (openLine .answering cfg) (fun t => t.ml.parser == .muted) = true
      ∧ gives .framingError cfg (fun t => t.ml.parser == .muted) = true
      ∧ gives .collision { cfg with ml := { cfg.ml with line := .responding, sent := .ownBreak } }
          (fun t => t.ml.parser == .idle) = true
      ∧ gives .lineBreak (openLine .answering cfg)
          (fun t => t.ml.parser == .idle && t.ml.line == .responding && t.passTime.ml.line == .idle) = true
      ∧ gives (.codeByte 7) (coded (List.replicate 6 7)) (fun t => t.ml.access == .closed && t.ml.kept.length == 7) = true
      ∧ gives (.codeByte 7) (coded (List.replicate 7 7)) (fun t => t.ml.access == .opened && t.ml.kept.isEmpty) = true
      ∧ gives (.codeByte 8) (coded (List.replicate 7 7)) (fun t => t.ml.access == .limited
          && t.passTime.ml.line == .responding && t.passTime.passTime.ml.line == .idle) = true := by
  unfold MLine.Free
  refine ⟨by decide +kernel, .inl (by decide), .inr (.inl rfl), by decide +kernel⟩

/-- The response is these bytes and their check byte; where it follows an echo, time passes from the echo to it. -/
def sends (bytes : List Byte) (t : State) : Bool :=
  match t.ml.sent with
  | .response r => r == withCheck bytes && t.ml.line == .responding
  | .echoThenResponse _ r => r == withCheck bytes && t.ml.line == .echoing && t.passTime.ml.line == .responding
  | .nothing | .echo _ | .echoThenBreak _ | .ownBreak => false

/-- The byte whose echo goes before the response. -/
def echoes (b : Byte) (t : State) : Bool :=
  match t.ml.sent with
  | .echoThenResponse e _ => e == b
  | .nothing | .echo _ | .echoThenBreak _ | .response _ | .ownBreak => false

theorem test_witness_MaintenanceReadsAnswer :
    (openLine .idle busy).live = true ∧ (openLine .idle busy).ml.line ≠ .responding
      ∧ gives .statusPeek (openLine .idle busy) (echoes 0x01) = true
      ∧ gives .optionRead (openLine .idle busy) (echoes 0x0C) = true
      ∧ gives .freezeCommand (openLine .idle busy) (echoes 0x0A) = true
      ∧ gives (.unknownCommand 0x05) (openLine .idle busy) (echoes 0x05) = true
      ∧ (openLine .idle busy).ml.access ≠ .closed ∧ (openLine .idle busy).ml.parser = .idle
      ∧ commandCodes.contains 0x05 = false
      ∧ (openLine (.operands 0x02 []) busy).ml.parser = .operands 0x02 []
      ∧ (openLine (.operands 0x04 [3]) busy).ml.parser = .operands 0x04 [3] ∧ busy.exchange ≠ .init
      ∧ gives .statusPeek (openLine .idle busy) (sends [0x30, 0, 0, 0, 1, 6, 0, 0]) = true
      ∧ gives .optionRead (openLine .idle busy) (sends (List.replicate 13 0)) = true
      ∧ gives (.unknownCommand 0x05) (openLine .idle busy) (sends [0x5A, 0x0B]) = true
      ∧ gives (.defPeek 128) (openLine (.operands 0x02 []) busy) (sends [6]) = true
      ∧ gives (.defPeek 127) (openLine (.operands 0x02 []) State.reset) (sends [2]) = true
      ∧ gives (.queuePeek 3 23) (openLine (.operands 0x04 [3]) busy) (sends [0, 0, 0, 0, 0, 0, 0, 0, 0]) = true
      ∧ gives (.queuePeek 3 24) (openLine (.operands 0x04 [3]) busy) (sends [6]) = true
      ∧ gives (.queuePeek 4 0) (openLine (.operands 0x04 [4]) busy) (sends [6]) = true
      ∧ gives (.queuePeek 4 0) { openLine (.operands 0x04 [4]) busy with
          ml := { (openLine (.operands 0x04 [4]) busy).ml with access := .limited } } (sends [1]) = true := by decide +kernel

theorem test_witness_DataPeekFetchesOrIsRefused :
    let peek (s : State) (x : Byte) (p : State → Bool) : Bool := gives (.dataPeek x) (openLine (.operands 0x03 []) s) p
    (openLine (.operands 0x03 []) busy).ml.access = .opened
      ∧ peek State.reset 0 (sends [2]) = true ∧ peek busy 0 (sends [3]) = true
      ∧ peek (withRecord .run published) 128 (sends [4]) = true
      ∧ peek (withRecord .run Runtime.initial) 0 (sends [5]) = true
      ∧ peek (withRecord .run published) 0
          (fun t => t.ml.dataPeek == some ⟨2, 1, .fresh, 0, .copying⟩ && (t.lane 4).hold == .fetching 0 0 0
            && (t.runtime 0).map (·.pins) == some #v[1, 0, 0]) = true
      ∧ gives (.dataPeek 0) { cfg with ml := { cfg.ml with access := .limited, parser := .operands 0x03 [] } } (sends [1])
          = true := by decide +kernel

theorem test_witness_ResponsesAndOperandsMoveTheParser :
    let peeked (st : PeekStatus) : State :=
      { cfg with ml := { cfg.ml with access := .opened, parser := .answering, dataPeek := some ⟨2, 1, .fresh, 0, st⟩ } }
    (peeked .copying).live = true ∧ (peeked .copying).ml.parser = .answering ∧ (peeked .copying).ml.line ≠ .responding
      ∧ gives .dataPeekResponse (peeked .aborted) (sends [7]) = true
      ∧ gives .dataPeekResponse (peeked .completed) (sends [0, 2, 0, 1, 1, 0, 0, 0, 0, 0, 0, 0, 0, 0]) = true
      ∧ gives .lastResponseByteSent
          { peeked .aborted with ml := { (peeked .aborted).ml with line := .responding, sent := .response [7, 0] } }
          (fun t => t.ml.line == .idle && t.ml.parser == .idle) = true
      ∧ gives .lastResponseByteSent
          { peeked .aborted with ml := { (peeked .aborted).ml with line := .echoing, sent := .echoThenResponse 3 [7, 0] } }
          (fun t => t.ml.line == .idle && t.ml.parser == .idle) = true
      ∧ (∀ b ∈ [(0x02 : Byte), 0x03, 0x04, 0x0B],
          gives (.mlineCommandByte b) (openLine .idle cfg) (fun t => t.ml.parser == .operands b []) = true)
      ∧ gives (.mlineCommandByte 9) (openLine (.operands 0x04 []) cfg) (fun t => t.ml.parser == .operands 0x04 [9]) = true
      ∧ gives (.mlineCommandByte 9) (openLine (.operands 0x0B (List.replicate 12 0)) cfg)
          (fun t => t.ml.parser == .operands 0x0B (List.replicate 12 0 ++ [9])) = true
      ∧ gives (.mlineCommandByte 0x01) (openLine .idle cfg) (echoes 0x01) = true
      ∧ gives (.mlineCommandByte 0x0A) (openLine .idle cfg) (fun t => t.exchange == .halted) = true
      ∧ gives (.mlineCommandByte 0x0D) (openLine .idle cfg) (sends [0x5A, 0x0B]) = true
      ∧ gives (.mlineCommandByte 23) (openLine (.operands 0x04 [3]) busy) (sends [0, 0, 0, 0, 0, 0, 0, 0, 0]) = true := by
  decide +kernel

/-- An image that an OPTION WRITE carries: flag 1, code 1 to 8, 9600 baud, FOLLOWER, 1000 ticks. -/
def sampleImage : Vector Byte 13 := #v[1, 1, 2, 3, 4, 5, 6, 7, 8, 1, 1, 0x03, 0xE8]

theorem test_witness_OptionWriteProgramsOnce :
    let write (s : State) (check : Byte) (p : State → Bool) : Bool :=
      gives (.optionWrite sampleImage check) (openLine (.operands 0x0B sampleImage.toList) s) p
    let good : Byte := crc8 sampleImage.toList
    write cfg (good + 1) (sends [0x5A, 0x0A]) = true ∧ write (withRecord .run published) good (sends [0x5A, 0x08]) = true
      ∧ write { cfg with opt := { cfg.opt with state := .programming } } good (sends [0x5A, 0x09]) = true
      ∧ write { cfg with opt := { cfg.opt with state := .programmed } } good (sends [0x5A, 0x09]) = true
      ∧ write cfg good (fun t => t.opt == ⟨.programming, ⟨#v[1, 2, 3, 4, 5, 6, 7, 8], 1, 1, 1000⟩⟩ && t.ml.awaitAck) = true
      ∧ gives (.optionWrite sampleImage good) { cfg with
          ml := { cfg.ml with access := .limited, parser := .operands 0x0B sampleImage.toList } } (sends [0x5A, 1]) = true
      ∧ gives .programmingComplete { cfg with
          opt := { cfg.opt with state := .programming },
          ml := { cfg.ml with access := .opened, parser := .answering, awaitAck := true } }
          (fun t => t.opt.state == .programmed && sends [0xA5, 0] t) = true
      ∧ gives .programmingComplete { cfg with opt := { cfg.opt with state := .programming } }
          (fun t => t.opt.state == .programmed && t.ml == cfg.ml) = true := by decide +kernel

/-! ## Witnesses: laws -/

/-- `busy` with a command to take. -/
def busyWith (c : Instr) : State := { busy with pending := [c] }

theorem test_witness_EveryStepKeepsQueuesAndStore :
    step (busyWith .wordAccess) = exec .wordAccess { busy with pending := [] } ∧ busy.QueuesOk ∧ busy.StoreOk ∧ busy.TableOk :=
  ⟨rfl, by unfold State.QueuesOk PortState.QueueOk; decide +kernel, by unfold State.StoreOk; decide +kernel,
    test_witness_CommandsAnswerNextState.2⟩

theorem test_witness_EveryStepKeepsTheRecordLaws : (withRecord .run published).RecordsOk :=
  withRecord_RecordsOk _ (by unfold Runtime.CountsOk; decide +kernel)

theorem test_witness_EveryStepKeepsTheTransferLaws : busy.TransfersOk ∧ busy.RecordsOk ∧ busy.BallotOk := by
  refine ⟨busy_TransfersOk, ?_, ballotOk_of_quiet (by decide) (by decide) (by decide)⟩
  exact withRecord_RecordsOk .run (rt := { published with staging := .filling, pins := #v[2, 0, 0] })
    (by unfold Runtime.CountsOk; decide +kernel)

theorem test_witness_EveryStepKeepsTheControlLaws :
    State.ControlOk (withBallot (ballotOf .commit #v[.yes, .none, .none, .none]) busy) := by
  refine ⟨⟨image0_Validated, fun _ => image0_Validated, fun _ _ => by decide +kernel⟩, fun b h => ?_, by decide +kernel,
    by decide +kernel⟩
  cases h
  exact ⟨by decide +kernel, by decide +kernel, by decide +kernel⟩

theorem test_witness_EveryStepKeepsTheTimebaseLaws :
    busy.TimebaseOk ∧ busy.ModeOk ∧ busy.AlignedWhilePublishing ∧ busy.ControlOk ∧ busy.TableOk := by
  refine ⟨by unfold State.TimebaseOk Timebase.RangesOk Timebase.CountersOk; decide +kernel,
    by unfold State.ModeOk; decide +kernel, fun _ => by decide +kernel, ⟨⟨image0_Validated, fun h => ?_, fun h => ?_⟩,
    ballotOk_of_quiet (by decide) (by decide) (by decide)⟩, test_witness_CommandsAnswerNextState.2⟩ <;>
    exact absurd h (by decide +kernel)

theorem test_witness_EveryStepKeepsMembersAccessAndOptions :
    step (busyWith .tick) = exec .tick { busy with pending := [] } ∧ (busyWith .tick).pending.head? ≠ some .programmingComplete
      ∧ (∀ memb, (busyWith .tick).pending.head? ≠ some (.powerOn memb)) ∧ (coded (List.replicate 7 7)).ml.kept.length < 8
      ∧ (openLine .idle busy).ml.access ≠ .closed
      ∧ gives (.powerOn 3) { cfg with opt := { cfg.opt with state := .programmed } } (fun t => t.opt.state == .programmed)
          = true := by
  refine ⟨rfl, by decide +kernel, fun memb => by simp [busyWith], by decide +kernel, by decide +kernel, by decide +kernel⟩

/-! ## Single steps -/

theorem test_summary_of_a_busy_port :
    gives (.chipSelectAssert 0) (busy.withPort 0 { busy.port 0 with lastResult := .check })
      (fun t => (t.port 0).summaryOut == withCheck [0xBC, 2, 1, 0] && (t.port 0).parser == .header) = true := by
  decide +kernel

theorem test_header_arrival :
    gives (.hcheckArrival 0 ⟨0x21, 0, 0, 0, crc8 [0x21, 0, 0, 0]⟩) (reading 0 cfg)
        (fun t => (t.port 0).parser == .payload ⟨0x21, 0, 0, 0, crc8 [0x21, 0, 0, 0]⟩) = true
      ∧ gives (.hcheckArrival 0 ⟨0x21, 0, 0, 0, 0⟩) (reading 0 cfg) (fun t => (t.port 0).parser == .drain true) = true
      ∧ gives (.unknownCode 0 ⟨0x16, 0, 0, 0, crc8 [0x16, 0, 0, 0]⟩) (reading 0 cfg)
          (fun t => (t.port 0).parser == .drain false && (t.port 0).lastResult == .unknown) = true
      ∧ gives (.hcheckArrival 0 ⟨0x14, 2, 0, 0, crc8 [0x14, 2, 0, 0]⟩) (reading 0 cfg)
          (fun t => (t.port 0).parser == .respond && (t.port 0).lastResult == .range) = true
      ∧ gives (.hcheckArrival 0 ⟨0x16, 0, 0, 0, crc8 [0x16, 0, 0, 0]⟩) (reading 0 cfg)
          (fun t => (t.port 0).lastResult == .unknown && (t.port 0).frame) = true := by decide +kernel

/-- Port 0 has sent and received k bytes of a frame whose response is nine bytes with its check byte. -/
def sending (k : Nat) : State :=
  cfg.withPort 0 { cfg.port 0 with selected := true, parser := .respond, byteCount := k, responseOut := zeros 9 }

/-- R159: a response is clocked out byte by byte, and after its last byte the parser goes to DRAIN; the bytes of a frame are counted. -/
theorem test_bytes_are_counted :
    (((sending 12).passTime.port 0).parser == .respond && ((sending 12).passTime.port 0).byteCount == 13
        && ((sending 13).passTime.port 0).parser == .drain false) = true
      ∧ gives (.frameDiscard 1 [1, 2, 3] 0) (reading 1 cfg) (fun t => (t.port 1).byteCount == 3) = true
      ∧ gives (.writeWindow 0 31 1 [1, 2, 3, 4] (crc8 [1, 2, 3, 4]))
          ((writing 0 0x20 31 1 0 cfg).withPort 0 { (writing 0 0x20 31 1 0 cfg).port 0 with byteCount := 5 })
          (fun t => (t.port 0).byteCount == 10) = true := by decide +kernel

theorem test_edits_of_the_shadow :
    gives (.editRecord 0 127 (Vector.ofFn fun i => (defBytes (some def127)).getD i 0) (crc8 (defBytes (some def127))))
        (writing 0 0x30 127 0 0 cfg) (fun t => t.shadowDef 127 == some def127 && t.activeDef 127 == none) = true
      ∧ gives (.dropRecord 0 0) (writing 0 0x31 0 0 0 busy) (fun t => t.shadowDef 0 == none) = true
      ∧ gives (.revertShadow 0) (writing 0 0x33 0 0 0 overlapping) (fun t => t.shadow == t.active) = true := by decide +kernel

/-- The last unpin of a RETIRED buffer takes the record out of BLOCKED and starts the owner's STAGE at the same moment. -/
theorem test_fetch_end_starts_the_waiting_stage :
    gives (.fetchComplete 1)
      (holding 1 (.fetching 0 2 2) (holding 0 (.waiting 0) (withRecord .run { blocked with stageWaiting := true })))
      (fun t => (t.lane 0).hold == .staging 0 0
        && t.runtime 0 == some { published with staging := .filling, roles := #v[.pub, .retired, .stg], pins := #v[0, 1, 0] }
        && (t.port 1).desc.state == .valid && (t.port 1).xfer) = true := by decide +kernel

theorem test_stage_end_makes_ready :
    gives (.stageComplete 0) (holding 0 (.staging 0 2) busy)
      (fun t => (t.runtime 0).map (·.staging) == some .ready && (t.lane 0) == ⟨.idle, .ok⟩) = true := by decide +kernel

/-- A command that is not due leaves the state as it was. -/
theorem test_commands_that_are_not_due :
    ([Instr.stageComplete 0, .fetchComplete 1, .lmComplete, .waitingStageStart 0, .cycleStart, .switch, .syncoutPulseEnd,
        .missedPulseEvent, .ballotTimerTick, .ballotExpiry, .clearDone, .resetNRelease, .dataPeekResponse,
        .lastResponseByteSent, .programmingComplete].all fun c => gives c busy fun t => t == busy) = true := by
  decide +kernel

end Sys2Proof.Tests
end

/-! # Shadow validation (R15 to R17): what COMMIT validation reports, and of which record -/

namespace Sys2Proof.Machine

/-! ## Searching the records in order -/

/-- A search through the records in order of their numbers answers the lowest that passes. -/
theorem find?_allRecords_eq_some {p : RecNo → Bool} {r : RecNo} :
    allRecords.find? p = some r ↔ p r = true ∧ ∀ q < r, p q = false := by
  rw [allRecords, ← Fin.find?_eq_find?_finRange, Fin.find?_eq_some_iff]

theorem find?_allRecords_eq_none {p : RecNo → Bool} : allRecords.find? p = none ↔ ∀ r, p r = false := by
  simp [List.find?_eq_none, mem_allRecords]

/-! ## The four checks (R16) -/

/-- The groups of records i and j, both defined, share a word: the base of each is below the other's base + 3×length (R17). -/
def Image.GroupsShare (im : Image) (i j : RecNo) : Prop :=
  ∃ d e, im.defs[i] = some d ∧ im.defs[j] = some e
    ∧ d.base < e.base + 3 * e.length ∧ e.base < d.base + 3 * d.length

/-- Record r is defined, with its point at or above the cycle ticks (R16, check 2). -/
def Image.PointBeyond (im : Image) (r : RecNo) : Prop :=
  ∃ d, im.defs[r] = some d ∧ im.header.cycleTicks ≤ d.point

/-- Some timebase field of the two headers differs (R5). -/
def SchedHeader.TimebaseDiffers (h k : SchedHeader) : Prop :=
  h.mode ≠ k.mode ∨ h.cycleTicks ≠ k.cycleTicks ∨ h.acqTol ≠ k.acqTol ∨ h.lockTol ≠ k.lockTol ∨ h.nAcq ≠ k.nAcq
    ∨ h.nLock ≠ k.nLock ∨ h.holdoverLimit ≠ k.holdoverLimit ∨ h.syncWin ≠ k.syncWin

/-- The exchange is out of CONFIG and the shadow changes the active timebase (R16, check 3). -/
def State.TimebaseLocked (s : State) : Prop :=
  s.exchange ≠ .config ∧ s.shadow.header.TimebaseDiffers s.active.header

/-- The tolerances are out of order (R16, check 4). -/
def SchedHeader.ToleranceDisorder (h : SchedHeader) : Prop :=
  h.acqTol < h.lockTol ∨ h.syncWin ≤ h.acqTol ∨ h.cycleTicks ≤ 4 * h.syncWin

theorem RecordDef.overlaps_iff {d e : RecordDef} :
    d.overlaps e = true ↔ d.base < e.base + 3 * e.length ∧ e.base < d.base + 3 * d.length := by
  change _ ↔ d.base < e.groupEnd ∧ e.base < d.groupEnd
  simp [RecordDef.overlaps]

theorem Image.overlapsLater_iff {im : Image} {i : RecNo} :
    im.overlapsLater i = true ↔ ∃ j, i < j ∧ im.GroupsShare i j := by
  unfold Image.overlapsLater Image.GroupsShare
  cases h : im.defs[i] with
  | none => simp
  | some d => simp [mem_allRecords, Option.any_eq_true, RecordDef.overlaps_iff]

theorem Image.overlapsLater_eq_false_iff {im : Image} {i : RecNo} :
    im.overlapsLater i = false ↔ ∀ j, i < j → ¬ im.GroupsShare i j := by
  rw [← Bool.not_eq_true, Image.overlapsLater_iff]
  simp only [not_exists, not_and]

theorem Image.overlapRecord_eq_some {im : Image} {i : RecNo} :
    im.overlapRecord = some i
      ↔ (∃ j, i < j ∧ im.GroupsShare i j) ∧ ∀ i' < i, ∀ j, i' < j → ¬ im.GroupsShare i' j := by
  simp only [Image.overlapRecord, find?_allRecords_eq_some, Image.overlapsLater_iff, Image.overlapsLater_eq_false_iff]

theorem Image.overlapRecord_eq_none {im : Image} :
    im.overlapRecord = none ↔ ∀ i j, i < j → ¬ im.GroupsShare i j := by
  simp only [Image.overlapRecord, find?_allRecords_eq_none, Image.overlapsLater_eq_false_iff]

theorem Image.pointBeyond_iff {im : Image} {r : RecNo} :
    (im.defs[r]).any (fun d => im.header.cycleTicks ≤ d.point) = true ↔ im.PointBeyond r := by
  simp [Image.PointBeyond, Option.any_eq_true]

theorem Image.beyondRecord_eq_some {im : Image} {r : RecNo} :
    im.beyondRecord = some r ↔ im.PointBeyond r ∧ ∀ q < r, ¬ im.PointBeyond q := by
  simp only [Image.beyondRecord, find?_allRecords_eq_some, ← Image.pointBeyond_iff, Bool.not_eq_true]

theorem Image.beyondRecord_eq_none {im : Image} : im.beyondRecord = none ↔ ∀ r, ¬ im.PointBeyond r := by
  simp only [Image.beyondRecord, find?_allRecords_eq_none, ← Image.pointBeyond_iff, Bool.not_eq_true]

theorem SchedHeader.sameTimebase_eq_false_iff {h k : SchedHeader} :
    h.sameTimebase k = false ↔ h.TimebaseDiffers k := by
  simp [SchedHeader.sameTimebase, SchedHeader.TimebaseDiffers, ← imp_iff_not_or]

theorem SchedHeader.toleranceOk_eq_true_iff {h : SchedHeader} : h.toleranceOk = true ↔ ¬ h.ToleranceDisorder := by
  simp [SchedHeader.toleranceOk, SchedHeader.ToleranceDisorder, and_assoc]

theorem State.timebaseLocked_iff {s : State} :
    (s.exchange ≠ .config && !s.shadow.header.sameTimebase s.active.header) = true ↔ s.TimebaseLocked := by
  simp [State.TimebaseLocked, SchedHeader.sameTimebase_eq_false_iff]

/-! ## The report (R16, R17) -/

section Report

variable {s : State}

theorem State.validate_of_overlapRecord {i : RecNo} (h : s.shadow.overlapRecord = some i) :
    s.validate = some (.overlap, i) := by
  simp [State.validate, h]

theorem State.validate_of_beyondRecord {r : RecNo} (hover : s.shadow.overlapRecord = none)
    (h : s.shadow.beyondRecord = some r) : s.validate = some (.pointBeyondCycle, r) := by
  simp [State.validate, hover, h]

/-- Once no record fails a check, the two checks of the header decide. -/
theorem State.validate_of_records_pass (hover : s.shadow.overlapRecord = none)
    (hbeyond : s.shadow.beyondRecord = none) :
    s.validate =
      if s.exchange ≠ .config && !s.shadow.header.sameTimebase s.active.header then some (.timebaseLocked, 0)
      else if !s.shadow.header.toleranceOk then some (.toleranceOrder, 0)
      else none := by
  simp only [State.validate, hover, hbeyond]

theorem State.validate_of_timebaseLocked (hover : s.shadow.overlapRecord = none)
    (hbeyond : s.shadow.beyondRecord = none) (hlocked : s.TimebaseLocked) :
    s.validate = some (.timebaseLocked, 0) := by
  rw [State.validate_of_records_pass hover hbeyond, if_pos (State.timebaseLocked_iff.mpr hlocked)]

theorem State.validate_of_toleranceDisorder (hover : s.shadow.overlapRecord = none)
    (hbeyond : s.shadow.beyondRecord = none) (hunlocked : ¬ s.TimebaseLocked)
    (hdisorder : s.shadow.header.ToleranceDisorder) : s.validate = some (.toleranceOrder, 0) := by
  have hbad : s.shadow.header.toleranceOk = false :=
    Bool.eq_false_iff.mpr fun hok => SchedHeader.toleranceOk_eq_true_iff.mp hok hdisorder
  rw [State.validate_of_records_pass hover hbeyond, if_neg (State.timebaseLocked_iff.not.mpr hunlocked)]
  simp [hbad]

theorem State.validate_of_all_pass (hover : s.shadow.overlapRecord = none)
    (hbeyond : s.shadow.beyondRecord = none) (hunlocked : ¬ s.TimebaseLocked)
    (hordered : ¬ s.shadow.header.ToleranceDisorder) : s.validate = none := by
  rw [State.validate_of_records_pass hover hbeyond, if_neg (State.timebaseLocked_iff.not.mpr hunlocked)]
  simp [SchedHeader.toleranceOk_eq_true_iff.mpr hordered]

end Report

/-- Settles O31: each clause is the lemma on `State.validate` for that first failing check, or for none. -/
theorem validationReportsTheFirstFailure : Obligations.ValidationReportsTheFirstFailure := by
  unfold Obligations.ValidationReportsTheFirstFailure
  intro s shares beyond locked disorder
  refine ⟨fun i hshares hfirst => ?overlap, fun r hdisjoint hbeyond hfirst => ?beyond, fun hdisjoint hwithin => ?header⟩
  case overlap =>
    exact State.validate_of_overlapRecord
      (Image.overlapRecord_eq_some.mpr ⟨hshares, fun i' hi j hj => hfirst i' j hi hj⟩)
  case beyond =>
    exact State.validate_of_beyondRecord (Image.overlapRecord_eq_none.mpr hdisjoint)
      (Image.beyondRecord_eq_some.mpr ⟨hbeyond, hfirst⟩)
  case header =>
    have hover : s.shadow.overlapRecord = none := Image.overlapRecord_eq_none.mpr hdisjoint
    have hinside : s.shadow.beyondRecord = none := Image.beyondRecord_eq_none.mpr hwithin
    exact ⟨State.validate_of_timebaseLocked hover hinside, State.validate_of_toleranceDisorder hover hinside,
      State.validate_of_all_pass hover hinside⟩

end Sys2Proof.Machine

/-! # Rotation and version numbers (R31, R32, R44): where the three buffers stand after a publication, and its number -/

namespace Sys2Proof.Machine

/-! ## Searching the three buffers -/

/-- A search through the buffers finds the only one that passes. -/
theorem find?_allBuffers_eq_some {q : Buf → Bool} {b : Buf} (hb : q b = true) (honly : ∀ c, q c = true → c = b) :
    allBuffers.find? q = some b := by
  cases hfound : allBuffers.find? q with
  | none => exact absurd hb (List.find?_eq_none.mp hfound b (mem_allBuffers b))
  | some c => rw [honly c (List.find?_some hfound)]

theorem find?_allBuffers_eq_none {q : Buf → Bool} (hq : ∀ b, q b = false) : allBuffers.find? q = none := by
  simp [List.find?_eq_none, hq]

/-! ## A record with one buffer in each role (R22) -/

/-- Buffer p is PUB, g is STG and o is RETIRED, so that they are the record's three buffers. -/
structure Runtime.BufferRoles (rt : Runtime) (p g o : Buf) : Prop where
  pub : rt.roles[p] = .pub
  stg : rt.roles[g] = .stg
  retired : rt.roles[o] = .retired

/-- The staged buffer is PUB after the turn. -/
theorem Runtime.turnedRoles_staged (rt : Runtime) (g : Buf) : (rt.turnedRoles g)[g] = .pub := by
  simp [Runtime.turnedRoles]

namespace Runtime.BufferRoles

variable {rt : Runtime} {p g o : Buf}

theorem pub_ne_stg (h : rt.BufferRoles p g o) : (p : Nat) ≠ g := by
  intro he
  obtain rfl : p = g := Fin.ext he
  exact absurd (h.pub.symm.trans h.stg) (by decide)

theorem pub_ne_retired (h : rt.BufferRoles p g o) : (p : Nat) ≠ o := by
  intro he
  obtain rfl : p = o := Fin.ext he
  exact absurd (h.pub.symm.trans h.retired) (by decide)

theorem stg_ne_retired (h : rt.BufferRoles p g o) : (g : Nat) ≠ o := by
  intro he
  obtain rfl : g = o := Fin.ext he
  exact absurd (h.stg.symm.trans h.retired) (by decide)

theorem cover (h : rt.BufferRoles p g o) (b : Buf) : b = p ∨ b = g ∨ b = o := by
  have hpg := h.pub_ne_stg
  have hpo := h.pub_ne_retired
  have hgo := h.stg_ne_retired
  simp only [Fin.ext_iff]
  omega

/-- Two assignments of roles agree once they agree at the three buffers. -/
theorem ext_roles (h : rt.BufferRoles p g o) {u v : Vector Role 3} (hp : u[p] = v[p]) (hg : u[g] = v[g])
    (ho : u[o] = v[o]) : u = v := by
  refine Vector.ext fun i hi => ?_
  rcases h.cover ⟨i, hi⟩ with rfl | rfl | rfl
  · exact hp
  · exact hg
  · exact ho

theorem pubBuf_eq (h : rt.BufferRoles p g o) : rt.pubBuf = p := by
  have honly (c : Buf) (hc : rt.roles[c] = .pub) : c = p := by
    rcases h.cover c with rfl | rfl | rfl
    · rfl
    · exact absurd (hc.symm.trans h.stg) (by decide)
    · exact absurd (hc.symm.trans h.retired) (by decide)
  rw [Runtime.pubBuf, find?_allBuffers_eq_some (decide_eq_true h.pub) fun c hc => honly c (of_decide_eq_true hc)]
  rfl

theorem stgBuf_eq (h : rt.BufferRoles p g o) : rt.stgBuf = some g := by
  have honly (c : Buf) (hc : rt.roles[c] = .stg) : c = g := by
    rcases h.cover c with rfl | rfl | rfl
    · exact absurd (hc.symm.trans h.pub) (by decide)
    · rfl
    · exact absurd (hc.symm.trans h.retired) (by decide)
  exact find?_allBuffers_eq_some (decide_eq_true h.stg) fun c hc => honly c (of_decide_eq_true hc)

/-! ## The turned roles and the new STG buffer (R31, R32) -/

theorem turnedRoles_eq (h : rt.BufferRoles p g o) : rt.turnedRoles g = (rt.roles.set p .retired).set g .pub := by
  simp only [Runtime.turnedRoles, h.pubBuf_eq]

theorem turnedRoles_retired (h : rt.BufferRoles p g o) : (rt.turnedRoles g)[o] = .retired := by
  have ho : rt.roles[(o : Nat)] = .retired := h.retired
  simp [h.turnedRoles_eq, h.pub_ne_retired, h.stg_ne_retired, ho]

/-- An unpinned buffer that was PUB is chosen. -/
theorem nextStg_of_pub_free (h : rt.BufferRoles p g o) (hp : rt.pins[p] = 0) : rt.nextStg g = some p := by
  simp only [Runtime.nextStg, h.pubBuf_eq, if_pos hp]

/-- With the buffer that was PUB pinned, the choice is a search among the turned roles. -/
theorem nextStg_of_pub_pinned (h : rt.BufferRoles p g o) (hp : rt.pins[p] ≠ 0) :
    rt.nextStg g = allBuffers.find? fun b => (rt.turnedRoles g)[b] = .retired && rt.pins[b] = 0 := by
  simp only [Runtime.nextStg, h.pubBuf_eq, if_neg hp]

/-- With the buffer that was PUB pinned, only the other RETIRED buffer can be chosen. -/
theorem eq_retired_of_candidate (h : rt.BufferRoles p g o) (hp : rt.pins[p] ≠ 0) {b : Buf}
    (hb : (rt.turnedRoles g)[b] = .retired) (hfree : rt.pins[b] = 0) : b = o := by
  rcases h.cover b with rfl | rfl | rfl
  · exact absurd hfree hp
  · exact absurd ((rt.turnedRoles_staged _).symm.trans hb) (by decide)
  · rfl

theorem nextStg_of_retired_free (h : rt.BufferRoles p g o) (hp : rt.pins[p] ≠ 0) (ho : rt.pins[o] = 0) :
    rt.nextStg g = some o := by
  rw [h.nextStg_of_pub_pinned hp]
  refine find?_allBuffers_eq_some ?_ fun b hb => ?_
  · rw [h.turnedRoles_retired, ho]
    rfl
  · obtain ⟨hretired, hfree⟩ := Bool.and_eq_true_iff.mp hb
    exact h.eq_retired_of_candidate hp (of_decide_eq_true hretired) (of_decide_eq_true hfree)

theorem nextStg_of_none_free (h : rt.BufferRoles p g o) (hp : rt.pins[p] ≠ 0) (ho : rt.pins[o] ≠ 0) :
    rt.nextStg g = none := by
  rw [h.nextStg_of_pub_pinned hp]
  refine find?_allBuffers_eq_none fun b => Bool.eq_false_iff.mpr fun hb => ?_
  obtain ⟨hretired, hfree⟩ := Bool.and_eq_true_iff.mp hb
  obtain rfl := h.eq_retired_of_candidate hp (of_decide_eq_true hretired) (of_decide_eq_true hfree)
  exact ho (of_decide_eq_true hfree)

/-! ## The three outcomes of a rotation (R32) -/

theorem rotate_of_nextStg (h : rt.BufferRoles p g o) {b : Buf} (hb : rt.nextStg g = some b) :
    rt.rotate = { rt with roles := ((rt.roles.set p .retired).set g .pub).set b .stg, staging := .empty } := by
  simp only [Runtime.rotate, h.stgBuf_eq, hb, h.turnedRoles_eq]

theorem rotate_of_no_nextStg (h : rt.BufferRoles p g o) (hnone : rt.nextStg g = none) :
    rt.rotate = { rt with roles := (rt.roles.set p .retired).set g .pub, staging := .blocked } := by
  simp only [Runtime.rotate, h.stgBuf_eq, hnone, h.turnedRoles_eq]

/-- Making the buffer that was PUB the STG one only swaps it with the staged one: o stays RETIRED. -/
theorem swappedRoles_eq (h : rt.BufferRoles p g o) :
    ((rt.roles.set p .retired).set g .pub).set p .stg = ((rt.roles.set p .stg).set g .pub).set o .retired := by
  have ho : rt.roles[(o : Nat)] = .retired := h.retired
  apply h.ext_roles
  case hp => simp [h.pub_ne_stg.symm, h.pub_ne_retired.symm]
  case hg => simp [h.pub_ne_stg, h.stg_ne_retired.symm]
  case ho => simp [h.pub_ne_retired, h.stg_ne_retired, ho]

/-- A buffer that stays RETIRED keeps its role. -/
theorem heldRoles_eq (h : rt.BufferRoles p g o) :
    (rt.roles.set p .retired).set g .pub = ((rt.roles.set p .retired).set g .pub).set o .retired := by
  have hstays : ((rt.roles.set p .retired).set g .pub)[o] = .retired := h.turnedRoles_eq ▸ h.turnedRoles_retired
  exact (hstays ▸ Vector.set_getElem_self o.isLt).symm

/-- The buffer that was PUB is unpinned: it becomes STG. -/
theorem rotate_of_pub_free (h : rt.BufferRoles p g o) (hp : rt.pins[p] = 0) :
    rt.rotate = { rt with roles := ((rt.roles.set p .stg).set g .pub).set o .retired, staging := .empty } := by
  rw [h.rotate_of_nextStg (h.nextStg_of_pub_free hp), h.swappedRoles_eq]

/-- Only the other RETIRED buffer is unpinned: it becomes STG. -/
theorem rotate_of_retired_free (h : rt.BufferRoles p g o) (hp : rt.pins[p] ≠ 0) (ho : rt.pins[o] = 0) :
    rt.rotate = { rt with roles := ((rt.roles.set p .retired).set g .pub).set o .stg, staging := .empty } :=
  h.rotate_of_nextStg (h.nextStg_of_retired_free hp ho)

/-- Both are pinned: no buffer is STG and the record is BLOCKED. -/
theorem rotate_of_none_free (h : rt.BufferRoles p g o) (hp : rt.pins[p] ≠ 0) (ho : rt.pins[o] ≠ 0) :
    rt.rotate = { rt with roles := ((rt.roles.set p .retired).set g .pub).set o .retired, staging := .blocked } := by
  rw [h.rotate_of_no_nextStg (h.nextStg_of_none_free hp ho), ← h.heldRoles_eq]

end Runtime.BufferRoles

/-! ## The version number (R44) -/

theorem nextVersion_toNat_of_lt {v : BitVec 16} (h : v.toNat < 65535) : (nextVersion v).toNat = v.toNat + 1 := by
  have hne : v ≠ 0xFFFF := by
    rintro rfl
    exact absurd h (by decide)
  rw [nextVersion, if_neg hne, BitVec.toNat_add_of_lt (by simpa using Nat.succ_lt_succ h)]
  rfl

theorem nextVersion_toNat_of_last {v : BitVec 16} (h : v.toNat = 65535) : (nextVersion v).toNat = 1 := by
  have hlast : v = 0xFFFF := BitVec.eq_of_toNat_eq h
  rw [nextVersion, if_pos hlast]
  rfl

theorem Runtime.publish_version (rt : Runtime) (cycle : Byte) : (rt.publish cycle).version = nextVersion rt.version :=
  rfl

/-- Settles O42: the three outcomes of a rotation by which of the two buffers is unpinned, then the number that follows. -/
theorem publicationRotatesAndNumbers : Obligations.PublicationRotatesAndNumbers := by
  unfold Obligations.PublicationRotatesAndNumbers
  refine ⟨fun rt p g o hp hg ho => ?rotation, fun rt cycle => ?version⟩
  case rotation =>
    have h : rt.BufferRoles p g o := ⟨hp, hg, ho⟩
    exact ⟨h.rotate_of_pub_free, h.rotate_of_retired_free, h.rotate_of_none_free⟩
  case version =>
    rw [Runtime.publish_version]
    exact ⟨nextVersion_toNat_of_lt, nextVersion_toNat_of_last, nextVersion_ne_zero rt.version⟩

end Sys2Proof.Machine

/-! # Queue arrival (R61 to R63) and the attention line (R66, R68) -/

namespace Sys2Proof.Machine

/-! ## What a queue does with an entry, by the condition that decides it -/

/-- A queue holds a PUBLISHED entry for r: the test that R62's coalescing makes, as a membership. -/
theorem any_isPublishedOf_iff {l : List Entry} {r : RecNo} :
    l.any (Entry.isPublishedOf r) = true ↔ ∃ v c k, Entry.published r v c k ∈ l := by
  rw [List.any_eq_true]
  constructor
  · rintro ⟨e, hmem, he⟩
    cases e with
    | published r' v c k =>
      obtain rfl : r' = r := by simpa [Entry.isPublishedOf] using he
      exact ⟨v, c, k, hmem⟩
    | _ => simp [Entry.isPublishedOf] at he
  · rintro ⟨v, c, k, hmem⟩
    exact ⟨_, hmem, by simp [Entry.isPublishedOf]⟩

/-- The entry is PUBLISHED and its record has an unread one in the queue (R62). -/
def PortState.Coalesces (p : PortState) (e : Entry) : Prop :=
  ∃ r v c k, e = .published r v c k ∧ p.queue.any (Entry.isPublishedOf r) = true

namespace PortState

variable {p : PortState} {e : Entry}

/-- A record note is outside the mask (R52). -/
@[simp] theorem masks_published (p : PortState) (r : RecNo) (v : BitVec 16) (c : Byte) (k : Nat) :
    p.masks (.published r v c k) = false := rfl

theorem accept_of_masks (h : p.masks e = true) : p.accept e = p := by
  simp [accept, h]

theorem accept_of_any {r : RecNo} (v : BitVec 16) (c : Byte) (k : Nat) (h : p.queue.any (Entry.isPublishedOf r) = true) :
    p.accept (.published r v c k) = { p with queue := p.queue.map (Entry.coalesce r v c) } := by
  simp only [accept, masks_published, h, if_true, Bool.false_eq_true, if_false]

theorem accept_of_not_coalesces (hm : ¬ p.masks e = true) (hc : ¬ p.Coalesces e) : p.accept e = p.join e := by
  cases e with
  | published r v c k => exact (if_neg hm).trans (if_neg fun hunread => hc ⟨r, v, c, k, rfl, hunread⟩)
  | _ => exact if_neg hm

theorem join_of_room (h : p.queue.length < 24) : p.join e = { p with queue := p.queue ++ [e] } := if_pos h

theorem join_of_full (h : 24 ≤ p.queue.length) : p.join e = { p with lost := min 255 (p.lost + 1), overflow := true } :=
  if_neg (Nat.not_lt.mpr h)

end PortState

/-! ## The one entry that coalescing changes (R62) -/

/-- A PUBLISHED entry for another record and an entry of another kind stay. -/
theorem Entry.coalesce_of_not_isPublishedOf {r : RecNo} {e : Entry} (v : BitVec 16) (c : Byte)
    (h : ¬ e.isPublishedOf r = true) : e.coalesce r v c = e := by
  cases e with
  | published r' v' c' k => exact if_neg fun hr => h (decide_eq_true hr)
  | _ => rfl

theorem Entry.coalesce_published_same (r : RecNo) (v v' : BitVec 16) (c c' : Byte) (k : Nat) :
    Entry.coalesce r v' c' (.published r v c k) = .published r v' c' (min 255 (k + 1)) :=
  if_pos rfl

theorem map_coalesce_of_countP_eq_zero {l : List Entry} {r : RecNo} (v : BitVec 16) (c : Byte)
    (h : l.countP (Entry.isPublishedOf r) = 0) : l.map (Entry.coalesce r v c) = l := by
  calc l.map (Entry.coalesce r v c)
      = l.map id := List.map_congr_left fun e he =>
          Entry.coalesce_of_not_isPublishedOf v c (List.countP_eq_zero.mp h e he)
    _ = l := List.map_id l

/-- R62: only the unread entry for the record changes, in its place. -/
theorem map_coalesce_around {front back : List Entry} {r : RecNo} (v v' : BitVec 16) (c c' : Byte) (k : Nat)
    (hfront : front.countP (Entry.isPublishedOf r) = 0) (hback : back.countP (Entry.isPublishedOf r) = 0) :
    (front ++ .published r v c k :: back).map (Entry.coalesce r v' c')
      = front ++ .published r v' c' (min 255 (k + 1)) :: back := by
  rw [List.map_append, List.map_cons, Entry.coalesce_published_same, map_coalesce_of_countP_eq_zero v' c' hfront,
    map_coalesce_of_countP_eq_zero v' c' hback]

/-- Settles O43: an unread entry for the record is changed in its place; any other entry is discarded by the mask, joins or is
lost. -/
theorem queuesCoalesceTakeOrLose : Obligations.QueuesCoalesceTakeOrLose := by
  unfold Obligations.QueuesCoalesceTakeOrLose
  refine ⟨fun p r v v' c c' k k' front back hq hfront hback => ?coalescing, ?other⟩
  case coalescing =>
    have hunread : p.queue.any (Entry.isPublishedOf r) = true :=
      any_isPublishedOf_iff.mpr ⟨v, c, k, by simp [hq]⟩
    rw [PortState.accept_of_any v' c' k' hunread, hq, map_coalesce_around v v' c c' k hfront hback]
  case other =>
    intro p e masked coalesces
    have hmask : masked ↔ p.masks e = true := by
      cases e <;> simp [masked, PortState.masks, Entry.maskBit]
    have hcoalesces : p.Coalesces e → coalesces := by
      rintro ⟨r, v, c, k, rfl, hunread⟩
      exact any_isPublishedOf_iff.mp hunread
    have hjoin (hm : ¬ masked) (hc : ¬ coalesces) : p.accept e = p.join e :=
      PortState.accept_of_not_coalesces (mt hmask.mpr hm) (mt hcoalesces hc)
    exact ⟨fun hm => PortState.accept_of_masks (hmask.mp hm),
      fun hm hc hroom => (hjoin hm hc).trans (PortState.join_of_room hroom),
      fun hm hc hfull => (hjoin hm hc).trans (PortState.join_of_full hfull)⟩

/-! ## The bits of the cause set, and the line -/

theorem getLsbD_append_ofBool_zero {w : Nat} (x : BitVec w) (b : Bool) : (x ++ BitVec.ofBool b).getLsbD 0 = b := by
  rw [BitVec.getLsbD_append]
  simp

theorem getLsbD_append_ofBool_succ {w : Nat} (x : BitVec w) (b : Bool) (i : Nat) :
    (x ++ BitVec.ofBool b).getLsbD (i + 1) = x.getLsbD i := by
  rw [BitVec.getLsbD_append]
  simp

/-- Two bit vectors share a set bit: their conjunction is not zero. -/
theorem and_ne_zero_iff_exists_getLsbD {w : Nat} {x y : BitVec w} :
    x &&& y ≠ 0 ↔ ∃ k : Fin w, x.getLsbD k.val = true ∧ y.getLsbD k.val = true := by
  simp [BitVec.eq_of_getLsbD_eq_iff, Fin.exists_iff, and_left_comm, -BitVec.getLsbD_eq_getElem]

namespace PortState

variable (p : PortState)

theorem causes_getLsbD_queue : p.causes.getLsbD 0 = p.queueCause := by
  rw [causes, getLsbD_append_ofBool_zero]

theorem causes_getLsbD_watermark : p.causes.getLsbD 1 = p.watermarkCause := by
  rw [causes, getLsbD_append_ofBool_succ, getLsbD_append_ofBool_zero]

theorem causes_getLsbD_overflow : p.causes.getLsbD 2 = p.overflow := by
  rw [causes, getLsbD_append_ofBool_succ, getLsbD_append_ofBool_succ, getLsbD_append_ofBool_zero]

theorem causes_getLsbD_xfer : p.causes.getLsbD 3 = p.xfer := by
  rw [causes, getLsbD_append_ofBool_succ, getLsbD_append_ofBool_succ, getLsbD_append_ofBool_succ, getLsbD_append_ofBool_zero]

theorem causes_getLsbD_frame : p.causes.getLsbD 4 = p.frame := by
  rw [causes, getLsbD_append_ofBool_succ, getLsbD_append_ofBool_succ, getLsbD_append_ofBool_succ, getLsbD_append_ofBool_succ]
  cases p.frame <;> rfl

theorem queueCause_iff : p.queueCause = true ↔ 1 ≤ p.queue.length := decide_eq_true_iff

theorem watermarkCause_iff : p.watermarkCause = true ↔ p.watermark ≤ p.queue.length := decide_eq_true_iff

theorem atnLow_iff :
    p.atnLow = true ↔ ∃ k : Fin 5, p.causes.getLsbD k.val = true ∧ p.enables.getLsbD k.val = true := by
  rw [atnLow, bne_iff_ne, and_ne_zero_iff_exists_getLsbD]

end PortState

/-- Settles O44: each bit of the cause set is its cause, and the line follows the bits that causes and enables share. -/
theorem attentionLineFollowsCauses : Obligations.AttentionLineFollowsCauses := by
  unfold Obligations.AttentionLineFollowsCauses
  intro p
  rw [p.causes_getLsbD_queue, p.causes_getLsbD_watermark]
  exact ⟨p.queueCause_iff, p.watermarkCause_iff, p.causes_getLsbD_overflow, p.causes_getLsbD_xfer, p.causes_getLsbD_frame,
    p.atnLow_iff⟩

end Sys2Proof.Machine

/-! # Windows, STAGE and FETCH (05 sections 5.1, 5.3 and 5.4): the first check that refuses, and what a taken request does -/

namespace Sys2Proof.Machine

/-! ## Checks in order (R78, R83, R87) -/

@[simp] theorem refuseIf_true (x : Result) : refuseIf true x = some x := rfl

@[simp] theorem refuseIf_false (x : Result) : refuseIf false x = none := rfl

theorem notReady_of_init {s : State} (h : s.exchange = .init) : s.notReady = some .notReady := if_pos h

theorem notReady_of_ne_init {s : State} (h : s.exchange ≠ .init) : s.notReady = none := if_neg h

theorem recNo?_of_toNat_eq {record : Byte} {r : RecNo} (h : record.toNat = r.val) : recNo? record = some r := by
  have hlt : record.toNat < 128 := h ▸ r.isLt
  rw [recNo?, dif_pos hlt]
  exact congrArg some (Fin.ext h)

theorem recNo?_toNat {record : Byte} {r : RecNo} (h : recNo? record = some r) : record.toNat = r.val := by
  unfold recNo? at h
  split at h
  · obtain rfl := Option.some.inj h
    rfl
  · cases h

theorem activeOf_of_toNat_eq (s : State) {record : Byte} {r : RecNo} (h : record.toNat = r.val) :
    s.activeOf record = s.activeDef r := by
  rw [State.activeOf, recNo?_of_toNat_eq h, Option.bind_some]

/-- A record byte above 127 and a record not defined name no definition. -/
theorem activeOf_eq_none {s : State} {record : Byte} (h : ∀ r : RecNo, record.toNat = r.val → s.activeDef r = none) :
    s.activeOf record = none :=
  Option.bind_eq_none_iff.mpr fun r hr => h r (recNo?_toNat hr)

/-! ## Whole frames of the write kinds (R159, R163) -/

section WriteFrames

variable {s : State} {n : Port}

theorem writeKind_refused {code : Byte} {params after : List Byte} {refusal : Option Result} {x : Result} (e : State)
    (hframe : s.writeFrameOn n code params after = true) (hx : refusal = some x) :
    writeKind s n code params after refusal e = .next (s.endFrame n x after.length) :=
  (writeKind_eq_next ..).mpr (.inr (.inl ⟨x, hframe, hx, rfl⟩))

theorem writeKind_taken {code : Byte} {params after : List Byte} {refusal : Option Result} (e : State)
    (hframe : s.writeFrameOn n code params after = true) (hx : refusal = none) :
    writeKind s n code params after refusal e = .next (e.endFrame n .ok after.length) :=
  (writeKind_eq_next ..).mpr (.inr (.inr ⟨hframe, hx, rfl⟩))

/-- A kind without payload is whole with no byte after its header. -/
theorem whole_nil_of_no_payload {h : FrameHeader} (hno : h.hasPayload = false) : h.whole [] 0 = true := by
  obtain ⟨hwindow, hrecord, hheader⟩ : h.code ≠ 0x20 ∧ h.code ≠ 0x30 ∧ h.code ≠ 0x32 := by
    simpa [FrameHeader.hasPayload] using hno
  have hafter : h.expectedAfter = 0 := by
    rw [FrameHeader.expectedAfter, if_neg hwindow, if_neg hrecord, if_neg hheader]
  simp [FrameHeader.whole, hafter, hno]

theorem writeFrameOn_of_no_payload {code p1 p2 p3 hc : Byte} (hl : s.live = true)
    (hp : (s.port n).parser = .payload ⟨code, p1, p2, p3, hc⟩)
    (hno : FrameHeader.hasPayload ⟨code, p1, p2, p3, hc⟩ = false) : s.writeFrameOn n code [p1] [] = true := by
  rw [writeFrameOn_eq s n _ _ hl hp, whole_nil_of_no_payload hno]
  simp [FrameHeader.params]

/-- WRITE WINDOW's frame is whole with four bytes for each word and their check byte. -/
theorem writeFrameOn_writeWindow {offset count p3 hc : Byte} {payload : List Byte} (hl : s.live = true)
    (hp : (s.port n).parser = .payload ⟨0x20, offset, count, p3, hc⟩) (hlen : payload.length = 4 * count.toNat) :
    s.writeFrameOn n 0x20 [offset, count] (payload ++ [crc8 payload]) = true := by
  rw [writeFrameOn_eq s n _ _ hl hp]
  simp [FrameHeader.params, FrameHeader.whole, FrameHeader.expectedAfter, hlen]

end WriteFrames

/-! ## The words of a WRITE WINDOW (R78) -/

theorem windowSet_getElem (w : Vector Word 32) (o : Nat) (x : Word) {i : Nat} (hi : i < 32) :
    (windowSet w o x)[i] = if o = i then x else w[i] :=
  Vector.getElem_setIfInBounds hi

/-- Words written from an offset on stand there in their order; the rest of the window stays. -/
theorem windowWrite_getElem (xs : List Word) (w : Vector Word 32) (o : Nat) {i : Nat} (hi : i < 32) :
    (windowWrite w o xs)[i] = if o ≤ i ∧ i < o + xs.length then xs.getD (i - o) 0 else w[i] := by
  induction xs generalizing w o with
  | nil =>
    rw [if_neg (by simp)]
    rfl
  | cons x xs ih =>
    rw [windowWrite, ih, windowSet_getElem]
    rcases Nat.lt_trichotomy i o with hbefore | rfl | hafter
    · rw [if_neg (by omega), if_neg (by omega), if_neg (by omega)]
    · rw [if_neg (by omega), if_pos rfl, if_pos (by simp)]
      simp
    · obtain ⟨k, rfl⟩ : ∃ k, i = o + 1 + k := ⟨i - (o + 1), by omega⟩
      have hplace : o + 1 + k - o = k + 1 := by omega
      have hrange : (o + 1 ≤ o + 1 + k ∧ o + 1 + k < o + 1 + xs.length)
          ↔ (o ≤ o + 1 + k ∧ o + 1 + k < o + (x :: xs).length) := by
        rw [List.length_cons]
        omega
      rw [if_neg (show ¬ o = o + 1 + k by omega), hplace, Nat.add_sub_cancel_left, List.getD_cons_succ]
      simp only [hrange]

/-- A payload of 4k bytes holds k words. -/
theorem wordsOfBytes_length {bytes : List Byte} {k : Nat} (h : bytes.length = 4 * k) : (wordsOfBytes bytes).length = k := by
  induction k generalizing bytes with
  | zero =>
    obtain rfl := List.eq_nil_of_length_eq_zero h
    rfl
  | succ k ih =>
    match bytes, h with
    | a :: b :: c :: d :: rest, h =>
      simp only [List.length_cons] at h
      rw [wordsOfBytes, List.length_cons, ih (by omega)]

/-- Word j of a payload is its bytes 4j to 4j+3, the most significant first. -/
theorem wordsOfBytes_getD {bytes : List Byte} {j : Nat} (h : 4 * j + 3 < bytes.length) :
    (wordsOfBytes bytes).getD j 0
      = wordOfBe32 (bytes.getD (4 * j) 0) (bytes.getD (4 * j + 1) 0) (bytes.getD (4 * j + 2) 0)
          (bytes.getD (4 * j + 3) 0) := by
  induction j generalizing bytes with
  | zero =>
    match bytes, h with
    | a :: b :: c :: d :: rest, _ => rfl
  | succ j ih =>
    match bytes, h with
    | a :: b :: c :: d :: rest, h =>
      simp only [List.length_cons] at h
      exact ih (by omega)

/-- What the window holds after a payload of 4k bytes is written from an offset on. -/
theorem windowWrite_wordsOfBytes (w : Vector Word 32) (o : Nat) {bytes : List Byte} {k : Nat}
    (hlen : bytes.length = 4 * k) :
    windowWrite w o (wordsOfBytes bytes) = Vector.ofFn fun i : Fin 32 =>
      if o ≤ i.val ∧ i.val < o + k then
        wordOfBe32 (bytes.getD (4 * (i.val - o)) 0) (bytes.getD (4 * (i.val - o) + 1) 0)
          (bytes.getD (4 * (i.val - o) + 2) 0) (bytes.getD (4 * (i.val - o) + 3) 0)
      else w[i] := by
  refine Vector.ext fun i hi => ?_
  rw [windowWrite_getElem _ _ _ hi, wordsOfBytes_length hlen, Vector.getElem_ofFn]
  dsimp only
  split
  · next hin => exact wordsOfBytes_getD (by omega)
  · rfl

/-! ## WRITE WINDOW (R78) -/

/-- The offset and count that R78 and R79 accept. -/
theorem windowRangeOk_iff {offset count : Byte} :
    windowRangeOk offset count = true
      ↔ offset.toNat ≤ 31 ∧ 1 ≤ count.toNat ∧ count.toNat ≤ 32 ∧ offset.toNat + count.toNat ≤ 32 := by
  simp [windowRangeOk, and_assoc]

/-- The checks of WRITE WINDOW, in order (R78). -/
def State.writeWindowCheck (s : State) (n : Port) (offset count : Byte) : Option Result :=
  (s.notReady.or (refuseIf (!windowRangeOk offset count) .range)).or
    (refuseIf (s.lane (laneOf n)).hold.isStage .windowBusy)

theorem exec_writeWindow (n : Port) (offset count : Byte) (payload : List Byte) (pcheck : Byte) (s : State) :
    exec (.writeWindow n offset count payload pcheck) s
      = writeKind s n 0x20 [offset, count] (payload ++ [pcheck]) (s.writeWindowCheck n offset count)
          (s.modPort n fun p => { p with writeWindow := windowWrite p.writeWindow offset.toNat (wordsOfBytes payload) }) :=
  rfl

section WriteWindow

variable {s : State} {n : Port} {offset count : Byte}

theorem writeWindowCheck_init (h : s.exchange = .init) : s.writeWindowCheck n offset count = some .notReady := by
  simp [State.writeWindowCheck, notReady_of_init h]

theorem writeWindowCheck_range (hready : s.exchange ≠ .init) (h : ¬ windowRangeOk offset count = true) :
    s.writeWindowCheck n offset count = some .range := by
  simp [State.writeWindowCheck, notReady_of_ne_init hready, h]

theorem writeWindowCheck_in_range (hready : s.exchange ≠ .init) (h : windowRangeOk offset count = true) :
    s.writeWindowCheck n offset count = refuseIf (s.lane (laneOf n)).hold.isStage .windowBusy := by
  simp [State.writeWindowCheck, notReady_of_ne_init hready, h]

end WriteWindow

/-- Settles O17: the frame is whole, so the request ends with the first refusal or with the words in their places. -/
theorem writeWindowSetsItsWords : Obligations.WriteWindowSetsItsWords := by
  unfold Obligations.WriteWindowSetsItsWords
  intro n offset count p3 hc payload s hl hp hlen
  have hframe := writeFrameOn_writeWindow hl hp hlen
  have hafter : (payload ++ [crc8 payload]).length = payload.length + 1 := by simp
  rw [exec_writeWindow, ← hafter]
  refine ⟨fun hinit => ?notReady, fun hready hrange => ?range, fun hready hcount hsum => ?inRange⟩
  case notReady => exact writeKind_refused _ hframe (writeWindowCheck_init hinit)
  case range => exact writeKind_refused _ hframe (writeWindowCheck_range hready (mt windowRangeOk_iff.mp hrange))
  case inRange =>
    have hcheck := writeWindowCheck_in_range (n := n) hready
      (windowRangeOk_iff.mpr ⟨by omega, hcount, by omega, hsum⟩)
    refine ⟨fun hstage => ?busy, fun hfree => ?taken⟩
    case busy => exact writeKind_refused _ hframe (by rw [hcheck, hstage, refuseIf_true])
    case taken =>
      rw [writeKind_taken _ hframe (by rw [hcheck, hfree, refuseIf_false]), modPort_eq_withPort,
        windowWrite_wordsOfBytes _ _ hlen]
      rfl

/-! ## The checks that STAGE and FETCH share (R83, R87) -/

/-- NOT_READY, then BUSY, then UNDEFINED: the checks with which both STAGE and FETCH begin. -/
def State.recordCheck (s : State) (n : Port) (record : Byte) : Option Result :=
  (s.notReady.or (refuseIf ((s.lane (laneOf n)).hold != Hold.idle) .busy)).or
    (refuseIf (s.activeOf record).isNone .undefined)

section RecordCheck

variable {s : State} {n : Port} {record : Byte}

theorem recordCheck_init (h : s.exchange = .init) : s.recordCheck n record = some .notReady := by
  simp [State.recordCheck, notReady_of_init h]

theorem recordCheck_busy (hready : s.exchange ≠ .init) (h : (s.lane (laneOf n)).hold ≠ .idle) :
    s.recordCheck n record = some .busy := by
  simp [State.recordCheck, notReady_of_ne_init hready, bne_iff_ne.mpr h]

theorem recordCheck_undefined (hready : s.exchange ≠ .init) (hidle : (s.lane (laneOf n)).hold = .idle)
    (h : s.activeOf record = none) : s.recordCheck n record = some .undefined := by
  simp [State.recordCheck, notReady_of_ne_init hready, hidle, h]

theorem recordCheck_passes {d : RecordDef} (hready : s.exchange ≠ .init) (hidle : (s.lane (laneOf n)).hold = .idle)
    (h : s.activeOf record = some d) : s.recordCheck n record = none := by
  simp [State.recordCheck, notReady_of_ne_init hready, hidle, h]

end RecordCheck

/-! ## STAGE (R83, R84) -/

section Stage

variable {s : State} {n : Port} {record : Byte}

theorem stageCheck_of_recordCheck {x : Result} (h : s.recordCheck n record = some x) :
    s.stageCheck n record = some x := by
  unfold State.recordCheck at h
  rw [State.stageCheck, h, Option.some_or, Option.some_or]

/-- With the shared checks passed, R83 asks for the owner and then for an exchange that is not HALTED. -/
theorem stageCheck_of_passes {d : RecordDef} (h : s.recordCheck n record = none) (hd : s.activeOf record = some d) :
    s.stageCheck n record
      = (refuseIf (!decide (d.owner = n)) .notOwner).or (refuseIf (s.exchange = .halted) .wrongState) := by
  unfold State.recordCheck at h
  rw [State.stageCheck, h, Option.none_or, hd, Option.any_some]

theorem exec_stage (n : Port) (record : Byte) (s : State) : exec (.stage n record) s = execStage n record s := rfl

section Frame

variable {p2 p3 hc : Byte} (hl : s.live = true) (hp : (s.port n).parser = .payload ⟨0x21, record, p2, p3, hc⟩)
include hl hp

theorem exec_stage_refused {x : Result} (hx : s.stageCheck n record = some x) :
    exec (.stage n record) s = .next (s.endFrame n x 0) := by
  rw [exec_stage, execStage]
  exact writeKind_refused _ (writeFrameOn_of_no_payload hl hp rfl) hx

theorem exec_stage_taken {r : RecNo} (hr : record.toNat = r.val) (hx : s.stageCheck n record = none) :
    exec (.stage n record) s = .next ((s.startStage n r).endFrame n .ok 0) := by
  rw [exec_stage, execStage, recNo?_of_toNat_eq hr]
  exact writeKind_taken _ (writeFrameOn_of_no_payload hl hp rfl) hx

end Frame

/-- A STAGE that can fill its buffer at once makes the lane ACTIVE (R26, R84). -/
theorem startStage_of_open {r : RecNo} {rt : Runtime} (hrt : s.runtime r = some rt)
    (h : rt.staging = .empty ∨ rt.staging = .ready) :
    s.startStage n r
      = { s with runtimes := s.runtimes.set r (some { rt with staging := .filling }),
                 lanes := s.lanes.set (laneOf n) ⟨.staging r 0, (s.lane (laneOf n)).result⟩ } := by
  obtain ⟨hclaim, hnot⟩ : rt.stageStart = { rt with staging := .filling } ∧ rt.staging ≠ .blocked := by
    rcases h with h | h
    · simp [Runtime.stageStart, h]
    · simp [Runtime.stageStart, h]
  rw [State.startStage, hrt]
  dsimp only
  rw [hclaim, if_neg hnot]
  rfl

/-- A STAGE on a BLOCKED record makes the lane WAITING (R26, R84). -/
theorem startStage_of_blocked {r : RecNo} {rt : Runtime} (hrt : s.runtime r = some rt) (h : rt.staging = .blocked) :
    s.startStage n r
      = { s with runtimes := s.runtimes.set r (some { rt with stageWaiting := true }),
                 lanes := s.lanes.set (laneOf n) ⟨.waiting r, (s.lane (laneOf n)).result⟩ } := by
  have hclaim : rt.stageStart = { rt with stageWaiting := true } := by simp [Runtime.stageStart, h]
  rw [State.startStage, hrt]
  dsimp only
  rw [hclaim, if_pos h]
  rfl

end Stage

/-- Settles O18: the shared checks, then R83's own two; a STAGE that none of them refuses starts by the staging it finds. -/
theorem stageStartsOrIsRefused : Obligations.StageStartsOrIsRefused := by
  unfold Obligations.StageStartsOrIsRefused
  intro n record p2 p3 hc s hl hp
  have refused {x : Result} (h : s.recordCheck n record = some x) :=
    exec_stage_refused hl hp (stageCheck_of_recordCheck h)
  refine ⟨fun hinit => refused (recordCheck_init hinit), fun hready hheld => refused (recordCheck_busy hready hheld),
    fun hready hidle hnone => refused (recordCheck_undefined hready hidle (activeOf_eq_none hnone)),
    fun r d rt hready hidle hr hdef hrt => ?defined⟩
  case defined =>
    have hd : s.activeOf record = some d := (activeOf_of_toNat_eq s hr).trans hdef
    have hcheck := stageCheck_of_passes (recordCheck_passes hready hidle hd) hd
    have htaken (howner : d.owner = n) (hhalted : s.exchange ≠ .halted) :=
      exec_stage_taken hl hp hr (hcheck.trans (by simp [howner, hhalted]))
    refine ⟨fun howner => ?notOwner, fun howner hhalted => ?halted, fun howner hhalted hopen => ?active,
      fun howner hhalted hblocked => ?waiting⟩
    case notOwner => exact exec_stage_refused hl hp (hcheck.trans (by simp [howner]))
    case halted => exact exec_stage_refused hl hp (hcheck.trans (by simp [howner, hhalted]))
    case active => rw [htaken howner hhalted, startStage_of_open hrt hopen]
    case waiting => rw [htaken howner hhalted, startStage_of_blocked hrt hblocked]

/-! ## FETCH (R87, R88) -/

section Fetch

variable {s : State} {n : Port} {record : Byte}

theorem fetchCheck_of_recordCheck {x : Result} (h : s.recordCheck n record = some x) :
    s.fetchCheck n record = some x := by
  unfold State.recordCheck at h
  rw [State.fetchCheck, h, Option.some_or, Option.some_or]

/-- With the shared checks passed, R87 asks for the owner or a subscriber and then for a version that is not 0. -/
theorem fetchCheck_of_passes {r : RecNo} {d : RecordDef} {rt : Runtime} (h : s.recordCheck n record = none)
    (hr : record.toNat = r.val) (hd : s.activeOf record = some d) (hrt : s.runtime r = some rt) :
    s.fetchCheck n record
      = (refuseIf (decide (¬ (d.owner = n ∨ d.subscribers.getLsbD n.val = true))) .notSubscribed).or
          (refuseIf (decide (rt.version = 0)) .noData) := by
  have hport : (!(some d).any fun d => d.owner = n || d.subscribers.getLsbD n.val)
      = decide (¬ (d.owner = n ∨ d.subscribers.getLsbD n.val = true)) := by
    rw [Option.any_some, decide_not, Bool.decide_or, Bool.decide_eq_true]
  have hdata : (!(recNo? record).any fun r => !s.noData r) = decide (rt.version = 0) := by
    rw [recNo?_of_toNat_eq hr, Option.any_some, State.noData, hrt, Option.any_some, Bool.not_not, bne, Bool.not_not]
    rfl
  unfold State.recordCheck at h
  rw [State.fetchCheck, h, Option.none_or, hd, hport, hdata]

theorem exec_fetch (n : Port) (record : Byte) (s : State) : exec (.fetch n record) s = execFetch n record s := rfl

section Frame

variable {p2 p3 hc : Byte} (hl : s.live = true) (hp : (s.port n).parser = .payload ⟨0x22, record, p2, p3, hc⟩)
include hl hp

theorem exec_fetch_refused {x : Result} (hx : s.fetchCheck n record = some x) :
    exec (.fetch n record) s = .next (s.endFrame n x 0) := by
  rw [exec_fetch, execFetch]
  exact writeKind_refused _ (writeFrameOn_of_no_payload hl hp rfl) hx

theorem exec_fetch_taken {r : RecNo} (hr : record.toNat = r.val) (hx : s.fetchCheck n record = none) :
    exec (.fetch n record) s = .next ((s.startFetch n r).endFrame n .ok 0) := by
  rw [exec_fetch, execFetch, recNo?_of_toNat_eq hr]
  exact writeKind_taken _ (writeFrameOn_of_no_payload hl hp rfl) hx

end Frame

/-- The pin claim goes to the one buffer that is PUB (R22, R29). -/
theorem Runtime.pin_eq {rt : Runtime} {b : Buf} (hok : rt.BuffersOk) (hb : rt.roles[b] = .pub) :
    rt.pin = { rt with pins := rt.pins.set b (rt.pins[b] + 1) } := by
  simp only [Runtime.pin, rt.pubBuf_eq b hok hb]

/-- A FETCH pins the PUB buffer, makes the lane ACTIVE and captures the descriptor (R88). -/
theorem startFetch_eq {r : RecNo} {d : RecordDef} {rt : Runtime} {b : Buf} (hd : s.activeDef r = some d)
    (hrt : s.runtime r = some rt) (hok : rt.BuffersOk) (hb : rt.roles[b] = .pub) :
    s.startFetch n r
      = { s with runtimes := s.runtimes.set r (some { rt with pins := rt.pins.set b (rt.pins[b] + 1) }),
                 lanes := s.lanes.set (laneOf n) ⟨.fetching r 0 b, (s.lane (laneOf n)).result⟩ }.withPort n
          { s.port n with
            desc := { state := .inProgress, record := r, version := rt.version, health := rt.health,
                      lastCycle := rt.lastCycle, length := d.length },
            readWindow := zeroFrom (s.port n).readWindow d.length } := by
  rw [State.startFetch, hrt, hd]
  dsimp only
  rw [modPort_eq_withPort, Runtime.pin_eq hok hb, rt.pubBuf_eq b hok hb]
  rfl

end Fetch

/-- Settles O19: the shared checks, then R87's own two; a FETCH that none of them refuses pins the PUB buffer and captures. -/
theorem fetchPinsAndCapturesOrIsRefused : Obligations.FetchPinsAndCapturesOrIsRefused := by
  unfold Obligations.FetchPinsAndCapturesOrIsRefused
  intro n record p2 p3 hc s hl hp
  have refused {x : Result} (h : s.recordCheck n record = some x) :=
    exec_fetch_refused hl hp (fetchCheck_of_recordCheck h)
  refine ⟨fun hinit => refused (recordCheck_init hinit), fun hready hheld => refused (recordCheck_busy hready hheld),
    fun hready hidle hnone => refused (recordCheck_undefined hready hidle (activeOf_eq_none hnone)),
    fun r d rt b hready hidle hr hdef hrt => ?defined⟩
  case defined =>
    have hd : s.activeOf record = some d := (activeOf_of_toNat_eq s hr).trans hdef
    have hcheck := fetchCheck_of_passes (recordCheck_passes hready hidle hd) hr hd hrt
    refine ⟨fun howner hsub => ?notSubscribed, fun hallowed hversion => ?noData, fun hallowed hversion hok hb => ?taken⟩
    case notSubscribed =>
      have hrefused : ¬ (d.owner = n ∨ d.subscribers.getLsbD n.val = true) := by rw [hsub]; simp [howner]
      exact exec_fetch_refused hl hp (by rw [hcheck, decide_eq_true hrefused, refuseIf_true, Option.some_or])
    case noData =>
      exact exec_fetch_refused hl hp (by
        rw [hcheck, decide_eq_false (not_not_intro hallowed), decide_eq_true hversion, refuseIf_false, refuseIf_true,
          Option.none_or])
    case taken =>
      have hpass : s.fetchCheck n record = none := by
        rw [hcheck, decide_eq_false (not_not_intro hallowed), decide_eq_false hversion, refuseIf_false, refuseIf_false,
          Option.none_or]
      rw [exec_fetch_taken hl hp hr hpass, startFetch_eq hdef hrt hok hb]
      rfl

end Sys2Proof.Machine

/-! # Pulses (09 section 9.3): the phase error of a pulse, and the window credit an accepted pulse sets -/

namespace Sys2Proof.Machine

namespace Timebase

variable (tb : Timebase)

/-! ## The phase error (R146) -/

/-- The bound of R146's first half of a cycle, read in the integers: the floored half never exceeds the cycle, so the difference of
natural numbers is not cut at 0. -/
theorem lt_sub_half_iff (t ticks : Nat) : t < ticks - ticks / 2 ↔ (t : Int) < ticks - ticks / 2 := by omega

/-- In the first half the nearest start is the one the cycle in progress began with (R146). -/
theorem phaseError_of_lt {ticks : Nat} (h : (tb.tickCount : Int) < ticks - ticks / 2) : tb.phaseError ticks = tb.tickCount :=
  if_pos ((lt_sub_half_iff _ _).mpr h)

/-- From the half on the nearest start is the one that ends the cycle in progress (R146). -/
theorem phaseError_of_ge {ticks : Nat} (h : ticks - ticks / 2 ≤ (tb.tickCount : Int)) :
    tb.phaseError ticks = tb.tickCount - ticks :=
  if_neg fun hlt => h.not_gt ((lt_sub_half_iff _ _).mp hlt)

/-! ## The credit (R147) -/

theorem credit_of_nonneg {e : Int} (h : 0 ≤ e) : tb.credit e = { tb with startCredit := true } := if_pos h

theorem credit_of_neg {e : Int} (h : e < 0) : tb.credit e = { tb with nextCredit := true } := if_neg h.not_ge

end Timebase

/-- Settles O45: the two halves of the cycle, and the two signs of the phase error. -/
theorem phaseErrorAndCredits : Obligations.PhaseErrorAndCredits := by
  unfold Obligations.PhaseErrorAndCredits
  intro tb ticks
  exact ⟨tb.phaseError_of_lt, tb.phaseError_of_ge, fun _ => tb.credit_of_nonneg, fun _ => tb.credit_of_neg⟩

end Sys2Proof.Machine

/-! # What a command can do: the effect of each, apart from frames, the maintenance line and the option store -/

namespace Sys2Proof.Machine

/-! ## States that the laws cannot tell apart -/

/-- The fields of a port that a law speaks of: the write window, the fetch descriptor and the queue. -/
structure PortState.SameCore (p q : PortState) : Prop where
  writeWindow : q.writeWindow = p.writeWindow
  desc : q.desc = p.desc
  queue : q.queue = p.queue
  lost : q.lost = p.lost

/-- Two states differ at most in what frames leave on the ports, in the maintenance line and in the option store. -/
structure State.SameCore (u t : State) : Prop where
  pending : t.pending = u.pending
  resetLow : t.resetLow = u.resetLow
  members : t.members = u.members
  lanes : t.lanes = u.lanes
  active : t.active = u.active
  shadow : t.shadow = u.shadow
  runtimes : t.runtimes = u.runtimes
  store : t.store = u.store
  exchange : t.exchange = u.exchange
  ballot : t.ballot = u.ballot
  switchPending : t.switchPending = u.switchPending
  tb : t.tb = u.tb
  port : ∀ n, (u.port n).SameCore (t.port n)

namespace State.SameCore

theorem refl (s : State) : s.SameCore s :=
  ⟨rfl, rfl, rfl, rfl, rfl, rfl, rfl, rfl, rfl, rfl, rfl, rfl, fun _ => ⟨rfl, rfl, rfl, rfl⟩⟩

theorem modPort (s : State) (n : Port) {f : PortState → PortState} (h : (s.port n).SameCore (f (s.port n))) :
    s.SameCore (s.modPort n f) := by
  refine ⟨rfl, rfl, rfl, rfl, rfl, rfl, rfl, rfl, rfl, rfl, rfl, rfl, fun m => ?_⟩
  rw [modPort_port]
  split
  · next hm => exact hm ▸ h
  · exact ⟨rfl, rfl, rfl, rfl⟩

theorem trans {s u t : State} (h : s.SameCore u) (k : u.SameCore t) : s.SameCore t where
  pending := k.pending.trans h.pending
  resetLow := k.resetLow.trans h.resetLow
  members := k.members.trans h.members
  lanes := k.lanes.trans h.lanes
  active := k.active.trans h.active
  shadow := k.shadow.trans h.shadow
  runtimes := k.runtimes.trans h.runtimes
  store := k.store.trans h.store
  exchange := k.exchange.trans h.exchange
  ballot := k.ballot.trans h.ballot
  switchPending := k.switchPending.trans h.switchPending
  tb := k.tb.trans h.tb
  port n := ⟨(k.port n).writeWindow.trans (h.port n).writeWindow, (k.port n).desc.trans (h.port n).desc,
    (k.port n).queue.trans (h.port n).queue, (k.port n).lost.trans (h.port n).lost⟩

theorem setMl (s : State) (m : MLine) : s.SameCore (s.setMl m) :=
  ⟨rfl, rfl, rfl, rfl, rfl, rfl, rfl, rfl, rfl, rfl, rfl, rfl, fun _ => ⟨rfl, rfl, rfl, rfl⟩⟩

theorem setOpt (s : State) (o : OptionStore) : s.SameCore { s with opt := o } :=
  ⟨rfl, rfl, rfl, rfl, rfl, rfl, rfl, rfl, rfl, rfl, rfl, rfl, fun _ => ⟨rfl, rfl, rfl, rfl⟩⟩

theorem respond (s : State) (n : Port) (r : Result) (bytes : List Byte) : s.SameCore (s.respond n r bytes) :=
  .modPort s n ⟨rfl, rfl, rfl, rfl⟩

theorem endFrame (s : State) (n : Port) (r : Result) (k : Nat) : s.SameCore (s.endFrame n r k) :=
  .modPort s n ⟨rfl, rfl, rfl, rfl⟩

theorem answerLine (s : State) (b : Byte) (bytes : List Byte) : s.SameCore (s.answerLine b bytes) := .setMl s _

end State.SameCore

/-! ## The effects -/

/-- What each command can do to what the laws speak of, with the conditions under which it does it. -/
inductive Effect (s : State) : Instr → State → Prop where
  | stay {c : Instr} : Effect s c s
  | powerOn (memb : PortSet) : Effect s (.powerOn memb) (s.powerUp memb).resetParts.enterInit
  | powerLoss : Effect s .powerLoss { s with powered := false }
  | resetN (hl : s.live = true) : Effect s .resetN { s.resetParts with resetLow := true }
  | resetNRelease (hr : s.resetLow = true) : Effect s .resetNRelease ({ s with resetLow := false }).enterInit
  | clearDone (hl : s.live = true) (hx : s.exchange = .init) : Effect s .clearDone s.finishClear
  | take {c : Instr} (n : Port) (e : Entry) (rest : List Entry) (hq : (s.port n).queue = e :: rest) :
      Effect s c (s.modPort n fun p => { p with queue := rest })
  | writeWindow {c : Instr} (n : Port) (f : Vector Word 32 → Vector Word 32)
      (hfree : (s.lane (laneOf n)).hold.isStage = false) :
      Effect s c (s.modPort n fun p => { p with writeWindow := f p.writeWindow })
  | edit {c : Instr} (i : Image) (hlock : s.shadowLocked = false) (hrange : s.TableOk → i.InRange) :
      Effect s c (s.setShadow i)
  | stage {c : Instr} (n : Port) (record : Byte) (r : RecNo) (hl : s.live = true) (hr : recNo? record = some r)
      (hcheck : s.stageCheck n record = none) : Effect s c (s.startStage n r)
  | fetch {c : Instr} (n : Port) (record : Byte) (r : RecNo) (hl : s.live = true) (hr : recNo? record = some r)
      (hcheck : s.fetchCheck n record = none) : Effect s c (s.startFetch n r)
  | peek {c : Instr} (record : Byte) (r : RecNo) (hl : s.live = true) (hr : recNo? record = some r)
      (hcheck : s.lmRefusal record = none) : Effect s c (s.startPeek r record)
  | vote {c : Instr} (n : Port) (i : Item) (v : Vote) (hm : s.isMember n = true) (hcheck : s.voteCodesCheck n i v = none) :
      Effect s c (s.takeVote n i v)
  | freeze {c : Instr} (hx : s.exchange ≠ .init) : Effect s c s.freezeExchange
  | portReset (n : Port) : Effect s (.portReset n) (s.resetPort n)
  | wordAccess (l : LaneNo) (a : Nat) (u : State) (hg : s.nextGrant = some l) (ha : s.access l = some (a, u))
      (hlt : a < Config.storeWords) : Effect s .wordAccess ((u.setArbiter l).endIfDone l)
  | completeLane {c : Instr} (n : Port) (hdone : s.transferDone (laneOf n) = true) : Effect s c (s.completeLane n)
  | completeLm {c : Instr} (hdone : s.transferDone lm = true) : Effect s c s.completeLm
  | waitingStart {c : Instr} (n : Port) (u : State) (hu : s.waitingStart n = some u) : Effect s c u
  | tick {c : Instr} (hdue : s.tb.tickHanded = false ∨ s.nextTickDue = true) :
      Effect s c (s.setTb s.tb.handTick).takePoints
  | cycleStart {c : Instr} (hl : s.live = true) : Effect s c (s.setTb (s.tb.nextCycle s.tb.nextCredit)).cycleStartWork
  | switch {c : Instr} (hp : s.switchPending = true) (hx : s.exchange = .config) : Effect s c s.applySwitch
  | pulseEnd {c : Instr} : Effect s c (s.setTb { s.tb with syncOut := false, syncOutAge := 0 })
  | syncPulse {c : Instr} (hl : s.live = true) (hm : s.active.header.mode = .follower) : Effect s c s.takePulse
  | missedPulse {c : Instr} (hdue : s.missedDue = true) :
      Effect s c (s.changeDiscipline { s.tb.missed s.active.header with missedMade := true })
  | ballotTimer {c : Instr} (b : OpenBallot) (hb : s.ballot.current = some b) (hlt : b.elapsed < b.limit) :
      Effect s c (s.setBallot { s.ballot with current := some { b with elapsed := b.elapsed + 1 } })
  | ballotExpiry {c : Instr} (b : OpenBallot) (hb : s.ballot.current = some b) :
      Effect s c (s.closeBallot b .expired .none 0)

/-- A command reaches a state that the laws cannot tell from that of one of its effects. -/
def Reaches (s : State) (c : Instr) (t : State) : Prop := ∃ u, Effect s c u ∧ u.SameCore t

/-- An answer that, where it is a next state, is one that the command reaches. -/
def Reaching (s : State) (c : Instr) (x : Answer) : Prop := ∀ t, x = .next t → Reaches s c t

section Reaching

variable {s : State} {c : Instr}

theorem Reaches.stay {t : State} (h : s.SameCore t) : Reaches s c t := ⟨s, Effect.stay, h⟩

theorem Effect.reaches {u : State} (h : Effect s c u) : Reaches s c u := ⟨u, h, .refl u⟩

theorem Reaching.next {t : State} (h : Reaches s c t) : Reaching s c (.next t) := by
  intro t' e
  cases e
  exact h

/-- An event that is not due leaves the state. -/
theorem Reaching.ifDue {due : Bool} {e : State} (h : due = true → Reaches s c e) : Reaching s c (ifDue due s e) := by
  cases due
  · exact .next (.stay (.refl s))
  · exact .next (h rfl)

/-- A write kind that is refused, or offered without its frame, changes no more than its port's frame. -/
theorem Reaching.writeKind {n : Port} {code : Byte} {params after : List Byte} {refusal : Option Result} {e : State}
    (h : s.live = true → refusal = none → Reaches s c e) : Reaching s c (writeKind s n code params after refusal e) := by
  refine .ifDue fun hdue => ?_
  cases refusal with
  | some r => exact .stay (.endFrame ..)
  | none =>
    obtain ⟨u, hu, hsame⟩ := h (by simp only [State.writeFrameOn, Bool.and_eq_true] at hdue; exact hdue.1) rfl
    exact ⟨u, hu, hsame.trans (.endFrame ..)⟩

/-! ## The commands, by what they speak to -/

/-! ### Resets, frames and read kinds -/

theorem execClearDone_reaching : Reaching s .clearDone (execClearDone s) := by
  refine .ifDue fun h => ?_
  simp only [Bool.and_eq_true, decide_eq_true_eq] at h
  exact (Effect.clearDone h.1.1 h.2).reaches

theorem execStatus_reaching (n : Port) : Reaching s c (execStatus n s) := .ifDue fun _ => .stay (.respond ..)

theorem execReadWindow_reaching (n : Port) (offset count : Byte) : Reaching s c (execReadWindow n offset count s) := by
  refine .ifDue fun _ => ?_
  split
  · exact .stay (.respond ..)
  · exact .stay (.respond ..)

theorem execTake_reaching (n : Port) : Reaching s c (execTake n s) := by
  refine .ifDue fun _ => ?_
  split
  · exact .stay (.respond ..)
  · exact .stay (.respond ..)
  · next hq => exact ⟨_, .take n _ _ hq, .respond ..⟩

theorem execReadRecord_reaching (n : Port) (record image : Byte) : Reaching s c (execReadRecord n record image s) := by
  refine .ifDue fun _ => ?_
  split
  · exact .stay (.respond ..)
  · exact .stay (.respond ..)
  · exact .stay (.respond ..)

theorem execReadHeader_reaching (n : Port) (image : Byte) : Reaching s c (execReadHeader n image s) := by
  refine .ifDue fun _ => ?_
  split
  · exact .stay (.respond ..)
  · exact .stay (.respond ..)
  · exact .stay (.respond ..)

theorem execReadBallot_reaching (n : Port) : Reaching s c (execReadBallot n s) := by
  refine .ifDue fun _ => ?_
  split
  · exact .stay (.respond ..)
  · exact .stay (.respond ..)

theorem execUnknownCode_reaching (n : Port) (h : FrameHeader) : Reaching s c (execUnknownCode n h s) :=
  .ifDue fun _ => .stay (.modPort s n ⟨rfl, rfl, rfl, rfl⟩)

theorem execHcheckArrival_reaching (n : Port) (h : FrameHeader) : Reaching s c (execHcheckArrival n h s) := by
  unfold execHcheckArrival
  repeat' split
  · exact .ifDue fun _ => .stay (.modPort s n ⟨rfl, rfl, rfl, rfl⟩)
  · exact execStatus_reaching n
  · exact execReadWindow_reaching n _ _
  · exact execTake_reaching n
  · exact execReadRecord_reaching n _ _
  · exact execReadHeader_reaching n _
  · exact execReadBallot_reaching n
  · exact execUnknownCode_reaching n h

theorem execChipSelectAssert_reaching (n : Port) : Reaching s c (execChipSelectAssert n s) := by
  refine .ifDue fun _ => ?_
  split
  · exact .stay (.modPort s n ⟨rfl, rfl, rfl, rfl⟩)
  · exact .stay (.modPort s n ⟨rfl, rfl, rfl, rfl⟩)

/-! ### Requests on windows, attention and the table -/

theorem or_eq_none {a b : Option Result} (h : a.or b = none) : a = none ∧ b = none := Option.or_eq_none_iff.mp h

theorem refuseIf_eq_none {b : Bool} {x : Result} (h : refuseIf b x = none) : b = false := by
  cases b
  · rfl
  · cases h

theorem execWriteWindow_reaching (n : Port) (offset count : Byte) (payload : List Byte) (pcheck : Byte) :
    Reaching s c (execWriteWindow n offset count payload pcheck s) := by
  refine .writeKind fun _ hpass => ?_
  obtain ⟨_, hfree⟩ := or_eq_none hpass
  exact (Effect.writeWindow n (fun w => windowWrite w offset.toNat (wordsOfBytes payload))
    (refuseIf_eq_none hfree)).reaches

theorem execAcknowledge_reaching (n : Port) (causes : Byte) : Reaching s c (execAcknowledge n causes s) := by
  refine .writeKind fun _ _ => ?_
  split
  · exact .stay (.modPort s n ⟨rfl, rfl, rfl, rfl⟩)
  · exact .stay (.refl s)

theorem execSetAttention_reaching (n : Port) (enables watermark mask : Byte) :
    Reaching s c (execSetAttention n enables watermark mask s) := by
  refine .writeKind fun _ _ => ?_
  split
  · exact .stay (.modPort s n ⟨rfl, rfl, rfl, rfl⟩)
  · exact .stay (.refl s)

/-- An edit that is not refused finds the shadow unlocked (R8). -/
theorem shadowLocked_of_editCheck {n : Port} (h : s.editCheck n = none) : s.shadowLocked = false :=
  refuseIf_eq_none (or_eq_none h).2

/-- An image stays in range when one definition is replaced by one in range, or by none. -/
theorem Image.InRange.setDef {i : Image} (h : i.InRange) (r : RecNo) {d : Option RecordDef}
    (hd : ∀ x, d = some x → x.inRange = true) : ({ i with defs := i.defs.set r d } : Image).InRange := by
  refine ⟨fun q x hx => ?_, h.2⟩
  by_cases hq : r = q
  · subst hq
    exact hd x (by simpa using hx)
  · have hne : (r : Nat) ≠ q := fun e => hq (Fin.ext e)
    exact h.1 q x ((Vector.getElem_set_ne r.isLt q.isLt hne).symm.trans hx)

/-- A payload that is read carries a definition in range (R9). -/
theorem parseDef_inRange {p : Vector Byte 12} {d : RecordDef} (h : parseDef p = some d) : d.inRange = true := by
  unfold parseDef at h
  split at h
  · dsimp only at h
    split at h
    · next hpass =>
      cases h
      exact (Bool.and_eq_true_iff.mp hpass).2
    · cases h
  · cases h

/-- A payload that is read carries a header in range (R11). -/
theorem parseHeader_inRange {p : Vector Byte 16} {k : SchedHeader} (h : parseHeader p = some k) : k.inRange = true := by
  unfold parseHeader at h
  split at h
  · cases h
  · dsimp only at h
    split at h
    · next hpass =>
      cases h
      exact (Bool.and_eq_true_iff.mp hpass).2
    · cases h

theorem execEditRecord_reaching (n : Port) (record : Byte) (payload : Vector Byte 12) (pcheck : Byte) :
    Reaching s c (execEditRecord n record payload pcheck s) := by
  refine .writeKind fun _ hpass => ?_
  have hfree := shadowLocked_of_editCheck (or_eq_none hpass).1
  split
  · next r d _ hd =>
    exact (Effect.edit _ hfree fun h => h.2.setDef r fun x hx => by
      cases hx
      exact parseDef_inRange hd).reaches
  · exact .stay (.refl s)

theorem execDropRecord_reaching (n : Port) (record : Byte) : Reaching s c (execDropRecord n record s) := by
  refine .writeKind fun _ hpass => ?_
  have hfree := shadowLocked_of_editCheck (or_eq_none hpass).1
  split
  · next r _ => exact (Effect.edit _ hfree fun h => h.2.setDef r fun x hx => by cases hx).reaches
  · exact .stay (.refl s)

theorem execEditHeader_reaching (n : Port) (payload : Vector Byte 16) (pcheck : Byte) :
    Reaching s c (execEditHeader n payload pcheck s) := by
  refine .writeKind fun _ hpass => ?_
  have hfree := shadowLocked_of_editCheck (or_eq_none hpass).1
  split
  · next k hk => exact (Effect.edit { s.shadow with header := k } hfree fun h => ⟨h.2.1, parseHeader_inRange hk⟩).reaches
  · exact .stay (.refl s)

theorem execRevertShadow_reaching (n : Port) : Reaching s c (execRevertShadow n s) :=
  .writeKind fun _ hpass => (Effect.edit _ (shadowLocked_of_editCheck hpass) fun h => h.1).reaches

/-! ### Transfers -/

theorem execStage_reaching (n : Port) (record : Byte) : Reaching s c (execStage n record s) := by
  refine .writeKind fun hl hpass => ?_
  split
  · next r hr => exact (Effect.stage n record r hl hr hpass).reaches
  · exact .stay (.refl s)

theorem execFetch_reaching (n : Port) (record : Byte) : Reaching s c (execFetch n record s) := by
  refine .writeKind fun hl hpass => ?_
  split
  · next r hr => exact (Effect.fetch n record r hl hr hpass).reaches
  · exact .stay (.refl s)

theorem execWordAccess_reaching : Reaching s .wordAccess (execWordAccess s) := by
  intro t h
  unfold execWordAccess at h
  split at h
  · cases h
    exact .stay (.refl s)
  · next l hl =>
    split at h
    · cases h
      exact .stay (.refl s)
    · next a u ha =>
      split at h
      · next hlt =>
        cases h
        have hg : s.nextGrant = some l := by
          split at hl
          · exact hl
          · cases hl
        exact (Effect.wordAccess l a u hg ha hlt).reaches
      · cases h

theorem execStageComplete_reaching (n : Port) : Reaching s c (execStageComplete n s) :=
  .ifDue fun h => (Effect.completeLane n (Bool.and_eq_true_iff.mp h).2).reaches

theorem execFetchComplete_reaching (n : Port) : Reaching s c (execFetchComplete n s) :=
  .ifDue fun h => (Effect.completeLane n (Bool.and_eq_true_iff.mp h).2).reaches

theorem execLmComplete_reaching : Reaching s c (execLmComplete s) :=
  .ifDue fun h => (Effect.completeLm (Bool.and_eq_true_iff.mp h).2).reaches

theorem execWaitingStageStart_reaching (n : Port) : Reaching s c (execWaitingStageStart n s) := by
  refine .ifDue fun h => ?_
  obtain ⟨u, hu⟩ := Option.isSome_iff_exists.mp (Bool.and_eq_true_iff.mp h).2
  rw [hu]
  exact (Effect.waitingStart n u hu).reaches

/-! ### The Exchange Controller and the Timebase -/

theorem execVote_reaching (n : Port) (item choice : Byte) : Reaching s c (execVote n item choice s) := by
  refine .writeKind fun _ hpass => ?_
  obtain ⟨hfirst, hcodes⟩ := or_eq_none hpass
  have hm : s.isMember n = true := by simpa using refuseIf_eq_none (or_eq_none hfirst).1
  split
  · next i v hi hv =>
    rw [hi, hv] at hcodes
    exact (Effect.vote n i v hm hcodes).reaches
  · exact .stay (.refl s)

theorem execFreeze_reaching (n : Port) : Reaching s c (execFreeze n s) := by
  refine .writeKind fun _ hpass => (Effect.freeze fun hx => ?_).reaches
  rw [notReady_of_init hx] at hpass
  cases hpass

theorem execPortReset_reaching (n : Port) : Reaching s (.portReset n) (execPortReset n s) :=
  .writeKind fun _ _ => (Effect.portReset n).reaches

theorem execBallotTimerTick_reaching : Reaching s c (execBallotTimerTick s) := by
  unfold execBallotTimerTick
  split
  · next b hb =>
    exact .ifDue fun h => (Effect.ballotTimer b hb (of_decide_eq_true (Bool.and_eq_true_iff.mp h).2)).reaches
  · exact .next (.stay (.refl s))

theorem execBallotExpiry_reaching : Reaching s c (execBallotExpiry s) := by
  unfold execBallotExpiry
  split
  · next b hb => exact .ifDue fun _ => (Effect.ballotExpiry b hb).reaches
  · exact .next (.stay (.refl s))

theorem execSwitch_reaching : Reaching s c (execSwitch s) := by
  refine .ifDue fun h => ?_
  simp only [State.switchDue, Bool.and_eq_true, decide_eq_true_eq] at h
  exact (Effect.switch h.2.1 h.2.2).reaches

theorem execTick_reaching : Reaching s c (execTick s) := by
  refine .ifDue fun h => (Effect.tick ?_).reaches
  rcases Bool.or_eq_true_iff.mp h with hfirst | hnext
  · exact .inl (by simpa using (Bool.and_eq_true_iff.mp hfirst).2)
  · exact .inr hnext

theorem execCycleStart_reaching : Reaching s c (execCycleStart s) := by
  refine .ifDue fun h => ?_
  simp only [State.counting, Bool.and_eq_true] at h
  exact (Effect.cycleStart h.1.1.1).reaches

theorem execSyncPulse_reaching : Reaching s c (execSyncPulse s) := by
  refine .ifDue fun h => ?_
  simp only [State.counting, Bool.and_eq_true, decide_eq_true_eq] at h
  exact (Effect.syncPulse h.1.1 h.2).reaches

/-! ### The maintenance line -/

theorem execStatusPeek_reaching : Reaching s c (execStatusPeek s) := .ifDue fun _ => .stay (.answerLine ..)

theorem execDefPeek_reaching (r : Byte) : Reaching s c (execDefPeek r s) := .ifDue fun _ => .stay (.answerLine ..)

theorem execQueuePeek_reaching (p i : Byte) : Reaching s c (execQueuePeek p i s) := .ifDue fun _ => .stay (.answerLine ..)

theorem execOptionRead_reaching : Reaching s c (execOptionRead s) := .ifDue fun _ => .stay (.answerLine ..)

theorem execUnknownCommand_reaching (code : Byte) : Reaching s c (execUnknownCommand code s) :=
  .ifDue fun _ => .stay (.answerLine ..)

theorem takeCommandByte_reaching (b : Byte) : Reaching s c (takeCommandByte b s) := .ifDue fun _ => .stay (.setMl ..)

theorem execFreezeCommand_reaching : Reaching s c (execFreezeCommand s) := by
  refine .ifDue fun _ => ?_
  repeat' split
  · exact .stay (.answerLine ..)
  · exact .stay (.answerLine ..)
  · next hx => exact ⟨_, .freeze hx, .answerLine ..⟩

theorem live_of_lastOperandCanCome {code : Byte} {received : List Byte} (h : s.lastOperandCanCome code received = true) :
    s.live = true := by
  simp only [State.lastOperandCanCome, Bool.and_eq_true] at h
  exact ((byteCanCome_iff s).mp h.1.1).1

theorem execDataPeek_reaching (r : Byte) : Reaching s c (execDataPeek r s) := by
  refine .ifDue fun h => ?_
  repeat' split
  · exact .stay (.answerLine ..)
  · exact .stay (.answerLine ..)
  · next rec hcheck hr => exact (Effect.peek r rec (live_of_lastOperandCanCome h) hr hcheck).reaches
  · exact .stay (.answerLine ..)

theorem execOptionWrite_reaching (image : Vector Byte 13) (check : Byte) : Reaching s c (execOptionWrite image check s) := by
  refine .ifDue fun _ => ?_
  split
  · exact .stay (.answerLine ..)
  · exact .stay ((State.SameCore.setMl s _).trans (.setOpt _ _))

theorem execProgrammingComplete_reaching : Reaching s c (execProgrammingComplete s) := by
  refine .ifDue fun _ => .stay ?_
  unfold State.endProgramming
  dsimp only
  split
  · exact (State.SameCore.setOpt s _).trans (.setMl _ _)
  · exact .setOpt ..

theorem execMlineCommandByte_reaching (b : Byte) : Reaching s c (execMlineCommandByte b s) := by
  unfold execMlineCommandByte takeCode takeOperand
  repeat' split
  · exact execStatusPeek_reaching
  · exact execFreezeCommand_reaching
  · exact execOptionRead_reaching
  · exact takeCommandByte_reaching b
  · exact execUnknownCommand_reaching b
  · exact takeCommandByte_reaching b
  · exact execDefPeek_reaching b
  · exact execDataPeek_reaching b
  · exact execQueuePeek_reaching _ b
  · exact execOptionWrite_reaching _ b
  · exact .next (.stay (.refl s))
  · exact .next (.stay (.refl s))

end Reaching

/-- Every command has one of the effects. -/
theorem exec_reaching (c : Instr) (s : State) : Reaching s c (exec c s) := by
  cases c with
  | powerOn memb => exact .next (Effect.powerOn memb).reaches
  | resetN => exact .ifDue fun h => (Effect.resetN h).reaches
  | resetNRelease => exact .ifDue fun h => (Effect.resetNRelease (Bool.and_eq_true_iff.mp h).2).reaches
  | clearDone => exact execClearDone_reaching
  | chipSelectAssert n => exact execChipSelectAssert_reaching n
  | frameDiscard n bytes k => exact .ifDue fun _ => .stay (.modPort s n ⟨rfl, rfl, rfl, rfl⟩)
  | unknownCode n h => exact execUnknownCode_reaching n h
  | status n => exact execStatus_reaching n
  | readWindow n offset count => exact execReadWindow_reaching n offset count
  | take n => exact execTake_reaching n
  | readRecord n record image => exact execReadRecord_reaching n record image
  | readHeader n image => exact execReadHeader_reaching n image
  | readBallot n => exact execReadBallot_reaching n
  | writeWindow n offset count payload pcheck => exact execWriteWindow_reaching n offset count payload pcheck
  | stage n record => exact execStage_reaching n record
  | fetch n record => exact execFetch_reaching n record
  | acknowledge n causes => exact execAcknowledge_reaching n causes
  | setAttention n enables watermark mask => exact execSetAttention_reaching n enables watermark mask
  | editRecord n record payload pcheck => exact execEditRecord_reaching n record payload pcheck
  | dropRecord n record => exact execDropRecord_reaching n record
  | editHeader n payload pcheck => exact execEditHeader_reaching n payload pcheck
  | revertShadow n => exact execRevertShadow_reaching n
  | vote n item choice => exact execVote_reaching n item choice
  | freeze n => exact execFreeze_reaching n
  | portReset n => exact execPortReset_reaching n
  | wordAccess => exact execWordAccess_reaching
  | stageComplete n => exact execStageComplete_reaching n
  | fetchComplete n => exact execFetchComplete_reaching n
  | lmComplete => exact execLmComplete_reaching
  | waitingStageStart n => exact execWaitingStageStart_reaching n
  | tick => exact execTick_reaching
  | cycleStart => exact execCycleStart_reaching
  | switch => exact execSwitch_reaching
  | syncoutPulseEnd => exact .ifDue fun _ => Effect.pulseEnd.reaches
  | syncPulse => exact execSyncPulse_reaching
  | missedPulseEvent => exact .ifDue fun h => (Effect.missedPulse h).reaches
  | ballotTimerTick => exact execBallotTimerTick_reaching
  | ballotExpiry => exact execBallotExpiry_reaching
  | lineBreak => exact .ifDue fun _ => .stay (.setMl ..)
  | collision => exact .ifDue fun _ => .stay (.setMl ..)
  | framingError => exact .ifDue fun _ => .stay (.setMl ..)
  | codeByte b => exact .ifDue fun _ => .stay (.setMl ..)
  | statusPeek => exact execStatusPeek_reaching
  | defPeek r => exact execDefPeek_reaching r
  | dataPeek r => exact execDataPeek_reaching r
  | dataPeekResponse => exact .ifDue fun _ => .stay (.setMl ..)
  | queuePeek p i => exact execQueuePeek_reaching p i
  | freezeCommand => exact execFreezeCommand_reaching
  | optionWrite image check => exact execOptionWrite_reaching image check
  | programmingComplete => exact execProgrammingComplete_reaching
  | optionRead => exact execOptionRead_reaching
  | unknownCommand code => exact execUnknownCommand_reaching code
  | chipSelectRelease n => exact .ifDue fun _ => .stay (.modPort s n ⟨rfl, rfl, rfl, rfl⟩)
  | hcheckArrival n h => exact execHcheckArrival_reaching n h
  | mlineCommandByte b => exact execMlineCommandByte_reaching b
  | lastResponseByteSent => exact .ifDue fun _ => .stay (.setMl ..)
  | powerLoss => exact .next Effect.powerLoss.reaches

/-! ## Steps -/

/-- Clocking out a byte leaves what the laws speak of. -/
theorem clockOut_sameCore (p : PortState) : p.SameCore p.clockOut := by
  rw [clockOut_eq]
  exact ⟨rfl, rfl, rfl, rfl⟩

/-- Time moves the Timebase and nothing else that the laws speak of. -/
theorem passTime_sameCore (s : State) : (s.setTb s.passTime.tb).SameCore s.passTime := by
  refine ⟨?_, ?_, ?_, ?_, ?_, ?_, ?_, ?_, ?_, ?_, ?_, rfl, fun n => ?port⟩
  case port =>
    rw [passTime_port, setTb_port]
    split
    · exact clockOut_sameCore _
    · exact ⟨rfl, rfl, rfl, rfl⟩
  all_goals simp

/-- A law P is reached by every step from a state of law Q once it follows from Q, is kept by what the laws cannot see, and holds
after each effect and after the count of a tick. -/
theorem step_keeps {Q P : State → Prop} (hqueue : ∀ s rest, Q s → Q { s with pending := rest }) (hstay : ∀ s, Q s → P s)
    (hsame : ∀ u t, State.SameCore u t → P u → P t) (heffect : ∀ s c u, Effect s c u → Q s → P u)
    (htime : ∀ s, s.nextTickDue = true → Q s → P (s.setTb s.tb.countTick)) {s t : State} (h : step s = .next t)
    (hs : Q s) : P t := by
  rcases step_cases s h with ⟨c, rest, _, hexec⟩ | ⟨_, rfl⟩
  · obtain ⟨u, hu, hsame'⟩ := exec_reaching c _ t hexec
    exact hsame u t hsame' (heffect _ c u hu (hqueue s rest hs))
  · refine hsame _ _ (passTime_sameCore s) ?_
    rw [passTime_tb]
    split
    · next hdue => exact htime s hdue.2 hs
    · exact hstay s hs

end Sys2Proof.Machine

/-! # Laws that the exchange's control keeps: the parts of which votes, cycle starts, pulses and FREEZE are made -/

namespace Sys2Proof.Machine

/-- A law that entries handed to queues, changes of ballot, exchange state, Timebase and flag, a switch and the passing of CLEAR
keep. -/
structure ControlClosed (P : State → Prop) : Prop where
  handAll : ∀ s ps e, P s → P (s.handAll ps e)
  setBallot : ∀ s b, P s → P (s.setBallot b)
  setExchange : ∀ s x, P s → P (s.setExchange x)
  setTb : ∀ s tb, P s → P (s.setTb tb)
  setFlag : ∀ (s : State) b, P s → P { s with switchPending := b }
  applySwitch : ∀ s, P s → P s.applySwitch
  passClear : ∀ s, P s → P s.passClear

namespace ControlClosed

variable {P : State → Prop} (h : ControlClosed P) {s : State}
include h

theorem exchangeNote (hs : P s) : P s.exchangeNote := h.handAll _ _ _ hs

theorem closeBallot (b : OpenBallot) (o : BallotOutcome) (w : Reason) (r : RecNo) (hs : P s) : P (s.closeBallot b o w r) :=
  h.handAll _ _ _ (h.setBallot _ _ hs)

theorem cancelDisallowed (x : ExState) (hs : P s) : P (s.cancelDisallowed x) := by
  unfold State.cancelDisallowed
  repeat' split
  · exact hs
  · exact h.closeBallot _ _ _ _ hs
  · exact hs

theorem changeExchange (x : ExState) (hs : P s) : P (s.changeExchange x) :=
  h.exchangeNote (h.setExchange _ _ (h.cancelDisallowed x hs))

theorem enterConfig (hs : P s) : P s.enterConfig := by
  unfold State.enterConfig
  split
  · exact h.changeExchange _ (h.applySwitch _ hs)
  · exact h.changeExchange _ hs

theorem dropSwitch (hs : P s) : P s.dropSwitch := by
  unfold State.dropSwitch
  split
  · exact h.handAll _ _ _ (h.setFlag _ _ hs)
  · exact hs

theorem freezeExchange (hs : P s) (haborts : P s.freezeAborts) : P s.freezeExchange := by
  unfold State.freezeExchange
  split
  · exact hs
  · exact h.exchangeNote (h.setExchange _ _ (h.dropSwitch (h.cancelDisallowed _ haborts)))

theorem passEffect (i : Item) (hs : P s) : P (s.passEffect i) := by
  cases i with
  | start => exact h.changeExchange _ hs
  | stop =>
    unfold State.passEffect
    dsimp only
    split
    · exact h.changeExchange _ hs
    · exact h.enterConfig hs
  | commit =>
    unfold State.passEffect
    dsimp only
    split
    · exact h.applySwitch _ hs
    · exact h.setFlag _ _ hs
  | release => exact h.enterConfig hs
  | clear => exact h.passClear _ hs

theorem settleBallot (hs : P s) : P s.settleBallot := by
  unfold State.settleBallot
  repeat' split
  · exact hs
  · exact hs
  · exact h.passEffect _ (h.closeBallot _ _ _ _ hs)
  · exact h.closeBallot _ _ _ _ hs

theorem openBallot (n : Port) (i : Item) (hs : P s) : P (s.openBallot n i) := by
  unfold State.openBallot
  dsimp only
  split
  · exact h.closeBallot _ _ _ _ (h.setBallot _ _ hs)
  · exact h.settleBallot (h.setBallot _ _ hs)

theorem takeVote (n : Port) (i : Item) (v : Vote) (hs : P s) : P (s.takeVote n i v) := by
  unfold State.takeVote
  split
  · exact h.openBallot n i hs
  · exact h.settleBallot (h.setBallot _ _ hs)

theorem changeDiscipline (tb : Timebase) (hs : P s) : P (s.changeDiscipline tb) := by
  have hset : P (s.setTb tb) := h.setTb _ _ hs
  have hnote : P (s.setTb tb).timebaseNote := h.handAll _ _ _ hset
  unfold State.changeDiscipline State.reportDiscipline
  repeat' split
  · exact hset
  · exact h.changeExchange _ hnote
  · exact h.enterConfig hnote
  · exact hnote
  · exact hnote

theorem cycleStartWork (hs : P s) : P s.cycleStartWork := by
  have move {u : State} (hu : P u) : P u.cycleStartMove := by
    unfold State.cycleStartMove
    repeat' split
    · exact h.changeExchange _ hu
    · exact h.changeExchange _ hu
    · exact hu
    · exact h.changeExchange _ hu
    all_goals exact hu
  unfold State.cycleStartWork
  split
  · exact move (h.applySwitch _ hs)
  · exact move hs

theorem phaseStep (tb : Timebase) (hs : P s) : P (s.phaseStep tb) :=
  h.cycleStartWork (h.setTb _ _ (h.changeDiscipline _ hs))

theorem takePulse (hs : P s) : P s.takePulse := by
  unfold State.takePulse
  split
  · exact h.changeDiscipline _ hs
  · exact h.phaseStep _ hs

end ControlClosed

end Sys2Proof.Machine

/-! # Transfers seen from the ports: a transfer leaves the write windows and the queues -/

namespace Sys2Proof.Machine

/-- The write window and the queue of a port, which no transfer touches, are the same. -/
structure PortState.SameQueue (p q : PortState) : Prop where
  writeWindow : q.writeWindow = p.writeWindow
  queue : q.queue = p.queue
  lost : q.lost = p.lost

/-- Two states have the same write windows and queues. -/
def State.SameQueues (s t : State) : Prop := ∀ n, (s.port n).SameQueue (t.port n)

namespace State.SameQueues

theorem of_ports {s t : State} (h : t.ports = s.ports) : s.SameQueues t := by
  intro n
  have hport : t.port n = s.port n := by simp only [State.port, h]
  rw [hport]
  exact ⟨rfl, rfl, rfl⟩

theorem refl (s : State) : s.SameQueues s := of_ports rfl

theorem trans {s u t : State} (h : s.SameQueues u) (k : u.SameQueues t) : s.SameQueues t := fun n =>
  ⟨(k n).writeWindow.trans (h n).writeWindow, (k n).queue.trans (h n).queue, (k n).lost.trans (h n).lost⟩

theorem modPort (s : State) (n : Port) {f : PortState → PortState} (h : (s.port n).SameQueue (f (s.port n))) :
    s.SameQueues (s.modPort n f) := by
  intro m
  rw [modPort_port]
  split
  · next hm => exact hm ▸ h
  · exact ⟨rfl, rfl, rfl⟩

variable (s : State)

theorem setXfer (n : Port) : s.SameQueues (s.setXfer n) := modPort s n ⟨rfl, rfl, rfl⟩

theorem setDescState (n : Port) (d : DescState) : s.SameQueues (s.setDescState n d) := modPort s n ⟨rfl, rfl, rfl⟩

theorem startFetch (n : Port) (r : RecNo) : s.SameQueues (s.startFetch n r) := by
  unfold State.startFetch
  split
  · next rt d _ _ => exact trans (u := (s.setRuntime r rt.pin).setLane (laneOf n) _) (of_ports rfl) (modPort _ n ⟨rfl, rfl, rfl⟩)
  · exact refl s

theorem completeLane (n : Port) : s.SameQueues (s.completeLane n) := by
  have hend : s.SameQueues ((s.endTransfer (laneOf n) .ok).setXfer n) := setXfer _ n
  unfold State.completeLane
  dsimp only
  split
  · exact hend.trans (of_ports (by simp))
  · exact hend.trans ((setDescState _ n .valid).trans (of_ports (by simp)))
  · exact refl s
  · exact refl s

theorem endIfDone (l : LaneNo) : s.SameQueues (s.endIfDone l) := by
  unfold State.endIfDone
  repeat' split
  · exact completeLane s _
  · exact of_ports (by simp)
  · exact refl s

theorem fetchWord (l : LaneNo) (r : RecNo) (i : Nat) (b : Buf) (a : Nat) : s.SameQueues (s.fetchWord l r i b a) := by
  unfold State.fetchWord
  dsimp only
  split
  · exact trans (u := s.setLane l _) (of_ports rfl) (modPort _ _ ⟨rfl, rfl, rfl⟩)
  · exact of_ports rfl

theorem freezeAborts : s.SameQueues s.freezeAborts := by
  refine foldl_preserves _ (fun t => s.SameQueues t) (fun t n ht => ?_) allPorts s (refl s)
  split
  · exact ht.trans ((of_ports (by simp)).trans (setXfer _ n))
  · exact ht

theorem abortLanes (res : TransferResult) (on : RecNo → Bool) : s.SameQueues (s.abortLanes res on) := by
  intro n
  rw [abortLanes_port]
  split
  · exact ⟨rfl, rfl, rfl⟩
  · exact ⟨rfl, rfl, rfl⟩

end State.SameQueues

/-- All that an access can be: a STAGE's word, from a port's write window to its record's STG buffer, or a FETCH's. -/
theorem access_cases {s u : State} {l : LaneNo} {a : Nat} (h : s.access l = some (a, u)) :
    (∃ n r i d rt b, l = laneOf n ∧ (s.lane l).hold = .staging r i ∧ s.activeDef r = some d ∧ s.runtime r = some rt
        ∧ rt.stgBuf = some b ∧ a = d.address b i ∧ u = s.stageWord l n r i a)
      ∨ ∃ r i b d, (s.lane l).hold = .fetching r i b ∧ s.activeDef r = some d ∧ a = d.address b i
        ∧ u = s.fetchWord l r i b a := by
  unfold State.access at h
  split at h
  · next r i hhold =>
    split at h
    · next d b n hd hb hn =>
      cases h
      obtain ⟨rt, hrt, hstg⟩ := Option.bind_eq_some_iff.mp hb
      exact .inl ⟨n, r, i, d, rt, b, portOf_eq_some.mp hn, hhold, hd, hrt, hstg, rfl, rfl⟩
    · cases h
  · next r i b hhold =>
    split at h
    · next d hd =>
      cases h
      exact .inr ⟨r, i, b, d, hhold, hd, rfl, rfl⟩
    · cases h
  · cases h
  · cases h

/-- The start of a WAITING STAGE changes one runtime and one lane. -/
theorem waitingStart_cases {s u : State} {n : Port} (h : s.waitingStart n = some u) :
    ∃ r rt b, (s.lane (laneOf n)).hold = .waiting r ∧ s.runtime r = some rt ∧ rt.freedBuf = some b
      ∧ u = (s.setRuntime r (rt.leaveBlocked b)).startWaiting (laneOf n) r := by
  unfold State.waitingStart at h
  split at h
  · next r hhold =>
    split at h
    · next rt hrt =>
      obtain ⟨b, hb, rfl⟩ := Option.map_eq_some_iff.mp h
      exact ⟨r, rt, b, hhold, hrt, hb, rfl⟩
    · cases h
  · cases h
  · cases h
  · cases h

/-- An access leaves the write windows and the queues. -/
theorem access_sameQueues {s u : State} {l : LaneNo} {a : Nat} (h : s.access l = some (a, u)) : s.SameQueues u := by
  obtain ⟨_, _, _, _, _, _, _, _, _, _, _, _, rfl⟩ | ⟨r, i, b, _, _, _, _, rfl⟩ := access_cases h
  · exact .of_ports rfl
  · exact .fetchWord s l r i b a

section Points

variable {P : State → Prop} (hhand : ∀ s ps e, P s → P (s.handAll ps e)) {s : State}
include hhand

theorem publishEntries_keeps (r : RecNo) (d : RecordDef) (rt : Runtime) (cycle : Byte) (hs : P s) :
    P (s.publishEntries r d rt cycle) := by
  unfold State.publishEntries
  dsimp only
  split
  · split
    · exact hhand _ _ _ (hhand _ _ _ (hhand _ _ _ hs))
    · exact hhand _ _ _ hs
  · split
    · exact hhand _ _ _ (hhand _ _ _ hs)
    · exact hs

theorem missEntries_keeps (r : RecNo) (d : RecordDef) (rt : Runtime) (cycle : Byte) (hs : P s) :
    P (s.missEntries r d rt cycle) := by
  unfold State.missEntries
  dsimp only
  split
  · split
    · exact hhand _ _ _ (hhand _ _ _ (hhand _ _ _ hs))
    · exact hhand _ _ _ (hhand _ _ _ hs)
  · split
    · exact hhand _ _ _ hs
    · exact hs

/-- A property that runtimes and entries handed to queues leave is kept by the points of a tick. -/
theorem takePoints_keeps (hruntime : ∀ s r rt, P s → P (s.setRuntime r rt)) (hs : P s) : P s.takePoints := by
  refine foldl_preserves _ P (fun u r hu => ?_) allRecords s hs
  split
  · unfold State.takePoint
    repeat' split
    · exact publishEntries_keeps hhand _ _ _ _ (hruntime _ _ _ hu)
    · exact hu
    · exact missEntries_keeps hhand _ _ _ _ (hruntime _ _ _ hu)
    · exact hu
  · exact hu

end Points

/-- What power-on and RESET_N leave on a port. -/
theorem resetParts_port (s : State) (n : Port) : s.resetParts.port n = (s.port n).resetAll :=
  getElem_ofFn_fin (fun n : Port => s.ports[n].resetAll) n

/-- PORT RESET leaves its windows, its descriptor and its queue at their reset values, and the other ports as they were. -/
theorem resetPort_port (s : State) (n m : Port) :
    (s.resetPort n).port m = if m = n then (s.port n).resetWindows.resetAttention else s.port m := by
  have hports : (s.resetPort n).ports = (s.modPort n fun p => p.resetWindows.resetAttention).ports := by
    simp [State.resetPort]
  have hport : (s.resetPort n).port m = (s.modPort n fun p => p.resetWindows.resetAttention).port m := by
    simp only [State.port, hports]
  rw [hport, modPort_port]

end Sys2Proof.Machine

/-! # The queues and the Record Store (R59, R19) -/

namespace Sys2Proof.Machine

theorem queuesOk_of_sameQueues {s t : State} (h : s.SameQueues t) (hs : s.QueuesOk) : t.QueuesOk := by
  intro n
  unfold PortState.QueueOk
  rw [(h n).queue, (h n).lost]
  exact hs n

/-- An empty queue that has lost nothing keeps the law. -/
theorem queueOk_of_empty {p : PortState} (hq : p.queue = []) (hl : p.lost = 0) : p.QueueOk :=
  queueOk_empty p hq (hl ▸ Nat.zero_le _)

/-- An entry to INIT hands one entry to each queue. -/
theorem enterInit_queuesOk {s : State} (h : s.QueuesOk) : s.enterInit.QueuesOk :=
  exchangeNote_queuesOk _ (queuesOk_congr rfl h)

theorem resetParts_queuesOk (s : State) : s.resetParts.QueuesOk := by
  intro n
  rw [resetParts_port]
  exact queueOk_of_empty rfl rfl

theorem applySwitch_queuesOk {s : State} (h : s.QueuesOk) : s.applySwitch.QueuesOk := by
  have haborted := queuesOk_of_sameQueues (State.SameQueues.abortLanes s .abortedSwitch s.switchAborts) h
  unfold State.applySwitch
  dsimp only
  split
  · exact switchNote_queuesOk _ _ (queuesOk_congr (by simp) haborted)
  · exact switchNote_queuesOk _ _ (queuesOk_congr (by simp) haborted)

theorem setFlag_queuesOk {s : State} (b : Bool) (h : s.QueuesOk) : ({ s with switchPending := b } : State).QueuesOk := h

theorem passClear_queuesOk (s : State) : s.passClear.QueuesOk := by
  have hempty (u : State) : u.emptyQueues.QueuesOk := fun n => by
    rw [emptyQueues_port]
    exact queueOk_of_empty rfl rfl
  unfold State.passClear
  exact enterInit_queuesOk (setFlag_queuesOk _ (hempty (s.abortLanes .abortedClear fun _ => true)))

theorem controlClosed_queuesOk : ControlClosed State.QueuesOk where
  handAll := handAll_queuesOk
  setBallot _ _ h := h
  setExchange _ _ h := h
  setTb _ _ h := h
  setFlag _ b h := setFlag_queuesOk b h
  applySwitch _ h := applySwitch_queuesOk h
  passClear s _ := passClear_queuesOk s

theorem resetPort_queuesOk {s : State} (n : Port) (h : s.QueuesOk) : (s.resetPort n).QueuesOk := by
  intro m
  rw [resetPort_port]
  split
  · exact queueOk_of_empty rfl rfl
  · exact h m

theorem effect_queuesOk {s u : State} {c : Instr} (he : Effect s c u) (h : s.QueuesOk) : u.QueuesOk := by
  have closed := controlClosed_queuesOk
  cases he with
  | stay => exact h
  | powerOn => exact enterInit_queuesOk (resetParts_queuesOk _)
  | powerLoss => exact h
  | resetN => exact resetParts_queuesOk s
  | resetNRelease => exact enterInit_queuesOk h
  | clearDone => exact exchangeNote_queuesOk _ (queuesOk_congr rfl h)
  | take n e rest hq => exact modPort_queuesOk s n _ h (queueOk_tail (h n) hq)
  | writeWindow n f => exact modPort_queuesOk s n _ h (h n)
  | edit => exact h
  | stage => exact queuesOk_congr (by simp) h
  | fetch n record r => exact queuesOk_of_sameQueues (.startFetch s n r) h
  | peek => exact queuesOk_congr (by simp) h
  | vote n i v => exact closed.takeVote n i v h
  | freeze => exact closed.freezeExchange h (queuesOk_of_sameQueues (.freezeAborts s) h)
  | portReset n => exact resetPort_queuesOk n h
  | wordAccess l a t _ ha =>
    exact queuesOk_of_sameQueues (.endIfDone (t.setArbiter l) l)
      (queuesOk_of_sameQueues (t := t) (access_sameQueues ha) h)
  | completeLane n => exact queuesOk_of_sameQueues (.completeLane s n) h
  | completeLm => exact queuesOk_congr (by simp) h
  | waitingStart n t ht =>
    obtain ⟨_, _, _, _, _, _, rfl⟩ := waitingStart_cases ht
    exact queuesOk_congr (by simp) h
  | tick => exact takePoints_keeps handAll_queuesOk (fun _ _ _ hu => hu) h
  | cycleStart => exact closed.cycleStartWork h
  | switch => exact applySwitch_queuesOk h
  | pulseEnd => exact h
  | syncPulse => exact closed.takePulse h
  | missedPulse => exact closed.changeDiscipline _ h
  | ballotTimer => exact h
  | ballotExpiry b => exact closed.closeBallot b _ _ _ h

/-! ## The store -/

/-- No control operation speaks to the store. -/
theorem controlClosed_store (m : Memory) : ControlClosed fun s => s.store = m where
  handAll _ _ _ h := by simpa using h
  setBallot _ _ h := h
  setExchange _ _ h := h
  setTb _ _ h := h
  setFlag _ _ h := h
  applySwitch _ h := by simpa using h
  passClear _ h := by simpa using h

/-- Only a STAGE's word access writes a word of the store, and only the end of a clear empties it. -/
theorem effect_store {s u : State} {c : Instr} (he : Effect s c u) :
    u.store = s.store
      ∨ (c = .clearDone ∧ u.store = [])
      ∨ (c = .wordAccess ∧ ∃ n r i d rt b w, s.nextGrant = some (laneOf n) ∧ (s.lane (laneOf n)).hold = .staging r i
          ∧ s.activeDef r = some d ∧ s.runtime r = some rt ∧ rt.stgBuf = some b ∧ d.address b i < Config.storeWords
          ∧ u.store = s.store.write (d.address b i) w) := by
  have closed := controlClosed_store s.store
  cases he with
  | clearDone => exact .inr (.inl ⟨rfl, by simp [State.finishClear]⟩)
  | wordAccess l a t hg ha hlt =>
    obtain ⟨n, r, i, d, rt, b, rfl, hhold, hd, hrt, hb, rfl, rfl⟩ | ⟨r, i, b, d, _, _, _, rfl⟩ := access_cases ha
    · exact .inr (.inr ⟨rfl, n, r, i, d, rt, b, _, hg, hhold, hd, hrt, hb, hlt, by simp [State.stageWord]; rfl⟩)
    · refine .inl ?_
      unfold State.fetchWord
      dsimp only
      split <;> simp
  | vote n i v => exact .inl (closed.takeVote n i v rfl)
  | freeze => exact .inl (by simp)
  | waitingStart n t ht =>
    obtain ⟨_, _, _, _, _, _, rfl⟩ := waitingStart_cases ht
    exact .inl (by simp)
  | cycleStart => exact .inl (closed.cycleStartWork rfl)
  | syncPulse => exact .inl (closed.takePulse rfl)
  | missedPulse => exact .inl (closed.changeDiscipline _ rfl)
  | ballotExpiry b => exact .inl (closed.closeBallot b _ _ _ rfl)
  | _ => exact .inl (by simp)

theorem effect_storeOk {s u : State} {c : Instr} (he : Effect s c u) (h : s.StoreOk) : u.StoreOk := by
  unfold State.StoreOk
  rcases effect_store he with hsame | ⟨_, hempty⟩ | ⟨_, _, _, _, _, _, _, _, _, _, _, _, _, hlt, hwrite⟩
  · exact hsame ▸ h
  · exact hempty ▸ rfl
  · exact hwrite ▸ Memory.write_wf _ _ _ h hlt

/-- Settles O55: each effect keeps the law of the queues, and the only write to the store is inside it. -/
theorem everyStepKeepsQueuesAndStore : Obligations.EveryStepKeepsQueuesAndStore := by
  unfold Obligations.EveryStepKeepsQueuesAndStore
  refine ⟨fun s t hstep hs => ?queues, fun s t hstep hs _ => ?store⟩
  case queues =>
    exact step_keeps (Q := State.QueuesOk) (fun _ _ h => h) (fun _ h => h)
      (fun u t hsame hu => queuesOk_of_sameQueues (fun n => ⟨(hsame.port n).writeWindow, (hsame.port n).queue,
        (hsame.port n).lost⟩) hu)
      (fun _ _ _ he h => effect_queuesOk he h) (fun _ _ h => h) hstep hs
  case store =>
    refine step_keeps (Q := State.StoreOk) (fun _ _ h => h) (fun _ h => h) (fun u t hsame hu => ?_)
      (fun _ _ _ he h => effect_storeOk he h) (fun _ _ h => h) hstep hs
    unfold State.StoreOk
    exact hsame.store ▸ hu

end Sys2Proof.Machine

/-! # Ports, table and Timebase after an entry to INIT, a switch and the passing of CLEAR -/

namespace Sys2Proof.Machine

variable (s : State)

/-! ## Entry to INIT (R99) -/

/-- An entry to INIT hands its EXCHANGE note with cycle number 0. -/
theorem enterInit_port (n : Port) : s.enterInit.port n = (s.port n).accept (.exchange 0 .init) := by
  unfold State.enterInit
  rw [exchangeNote_eq, notedAll_port]
  rfl

theorem enterInit_table :
    s.enterInit.active = Image.undefined s.opt.resetHeader ∧ s.enterInit.shadow = Image.undefined s.opt.resetHeader
      ∧ s.enterInit.runtimes = Vector.replicate 128 none := by
  refine ⟨?_, ?_, ?_⟩
  all_goals simp [State.enterInit, State.resetTable]

theorem enterInit_tb : s.enterInit.tb = .fresh s.opt.resetHeader.mode false := by
  simp [State.enterInit, State.stopTimebase, State.resetTable, Image.undefined]

theorem enterInit_exchange : s.enterInit.exchange = .init ∧ s.enterInit.clearing = true := by
  simp [State.enterInit]

theorem runtime_of_replicate {t : State} (h : t.runtimes = Vector.replicate 128 none) (r : RecNo) : t.runtime r = none := by
  simp [State.runtime, h]

theorem undefined_defs (h : SchedHeader) (r : RecNo) : (Image.undefined h).defs[r] = none := by
  simp [Image.undefined]

/-! ## Switches (R134) -/

/-- The switch without its note: aborts, copy, runtimes, flag, and the restart of R137. -/
def State.switched (s : State) : State :=
  if s.exchange = .config && !s.shadow.header.sameTimebase s.active.header then
    (s.abortLanes .abortedSwitch s.switchAborts).installShadow.restartTimebase
  else (s.abortLanes .abortedSwitch s.switchAborts).installShadow

theorem applySwitch_eq_switched : s.applySwitch = s.switched.switchNote .done := rfl

theorem switched_frame :
    s.switched.pending = s.pending ∧ s.switched.powered = s.powered ∧ s.switched.resetLow = s.resetLow
      ∧ s.switched.members = s.members ∧ s.switched.arbiter = s.arbiter ∧ s.switched.active = s.shadow
      ∧ s.switched.shadow = s.shadow ∧ s.switched.store = s.store ∧ s.switched.clearing = s.clearing
      ∧ s.switched.exchange = s.exchange ∧ s.switched.ballot = s.ballot ∧ s.switched.switchPending = false
      ∧ s.switched.opt = s.opt
      ∧ s.switched.lanes = (s.abortLanes .abortedSwitch s.switchAborts).lanes
      ∧ s.switched.ports = (s.abortLanes .abortedSwitch s.switchAborts).ports
      ∧ s.switched.ml = (s.abortLanes .abortedSwitch s.switchAborts).ml := by
  unfold State.switched
  split <;> simp [State.installShadow]

/-- Aborts leave the images, so that the classes of records stand as before them. -/
theorem abortLanes_recClass (res : TransferResult) (on : RecNo → Bool) (r : RecNo) :
    (s.abortLanes res on).recClass r = s.recClass r := by
  simp [State.recClass, State.activeDef, State.shadowDef]

theorem switched_runtime (r : RecNo) : s.switched.runtime r = (s.recClass r).runtime (s.runtime r) := by
  have h : s.switched.runtimes = (s.abortLanes .abortedSwitch s.switchAborts).installShadow.runtimes := by
    unfold State.switched
    split <;> simp
  have hrt : (s.abortLanes .abortedSwitch s.switchAborts).runtime r = s.runtime r := by simp [State.runtime]
  rw [State.runtime, h, ← abortLanes_recClass s .abortedSwitch s.switchAborts r, ← hrt]
  exact getElem_ofFn_fin (fun r => ((s.abortLanes .abortedSwitch s.switchAborts).recClass r).runtime
    ((s.abortLanes .abortedSwitch s.switchAborts).runtime r)) r

theorem switched_tb :
    s.switched.tb = if s.exchange = .config ∧ s.shadow.header.sameTimebase s.active.header = false then
      .fresh s.shadow.header.mode true else s.tb := by
  unfold State.switched
  simp only [Bool.and_eq_true, decide_eq_true_eq, Bool.not_eq_true']
  split
  · simp [State.restartTimebase, State.installShadow]
  · simp

theorem applySwitch_active : s.applySwitch.active = s.shadow := by
  simp [applySwitch_eq_switched, switched_frame]

theorem applySwitch_runtime (r : RecNo) : s.applySwitch.runtime r = (s.recClass r).runtime (s.runtime r) := by
  rw [← switched_runtime]
  simp [State.runtime, applySwitch_eq_switched]

theorem applySwitch_lane (l : LaneNo) :
    s.applySwitch.lane l = if (s.lane l).hold.record.any s.switchAborts then ⟨.idle, .abortedSwitch⟩ else s.lane l := by
  rw [← abortLanes_lane]
  simp [State.lane, applySwitch_eq_switched, switched_frame]

theorem applySwitch_timebase :
    s.applySwitch.tb = if s.exchange = .config ∧ s.shadow.header.sameTimebase s.active.header = false then
      .fresh s.shadow.header.mode true else s.tb := by
  rw [← switched_tb]
  simp [applySwitch_eq_switched]

theorem applySwitch_port (n : Port) :
    s.applySwitch.port n
      = (if (s.lane (laneOf n)).hold.record.any s.switchAborts then (s.port n).aborted (s.lane (laneOf n)).hold
          else s.port n).accept (.switch s.applySwitch.tb.cycleNumber .done) := by
  have hports : s.switched.port n = (s.abortLanes .abortedSwitch s.switchAborts).port n := by
    simp only [State.port, switched_frame]
  have htb : s.applySwitch.tb = s.switched.tb := by simp [applySwitch_eq_switched]
  rw [htb, applySwitch_eq_switched, switchNote_eq, notedAll_port, hports, abortLanes_port]

/-! ## The passing of CLEAR (R109) -/

theorem passClear_table :
    s.passClear.active = Image.undefined s.opt.resetHeader ∧ s.passClear.shadow = Image.undefined s.opt.resetHeader
      ∧ s.passClear.runtimes = Vector.replicate 128 none := by
  unfold State.passClear
  simp [enterInit_table]

theorem passClear_port (n : Port) :
    s.passClear.port n
      = PortState.accept { (if (s.lane (laneOf n)).hold.record.any (fun _ => true) then
              (s.port n).aborted (s.lane (laneOf n)).hold else s.port n) with queue := [], lost := 0 }
          (.exchange 0 .init) := by
  have hflag (t : State) (b : Bool) : ({ t with switchPending := b } : State).port n = t.port n := rfl
  rw [← abortLanes_port s .abortedClear, ← emptyQueues_port, State.passClear, enterInit_port, hflag]

theorem passClear_lane (l : LaneNo) :
    s.passClear.lane l
      = if (s.lane l).hold.record.any (fun _ => true) then ⟨.idle, .abortedClear⟩ else s.lane l := by
  rw [← abortLanes_lane]
  simp [State.passClear, State.lane]

end Sys2Proof.Machine

/-! # The queue of commands, the write window of a held STAGE, and the words of a pinned buffer (R35, R76) -/

namespace Sys2Proof.Machine

/-! ## The queue of commands -/

theorem controlClosed_pending (q : List Instr) : ControlClosed fun s => s.pending = q where
  handAll _ _ _ h := by simpa using h
  setBallot _ _ h := h
  setExchange _ _ h := h
  setTb _ _ h := h
  setFlag _ _ h := h
  applySwitch _ h := by simpa using h
  passClear _ h := by simpa using h

theorem effect_pending {s u : State} {c : Instr} (he : Effect s c u) : u.pending = s.pending := by
  have closed := controlClosed_pending s.pending
  cases he with
  | wordAccess l a t hg ha hlt =>
    obtain ⟨_, _, _, _, _, _, _, _, _, _, _, _, rfl⟩ | ⟨r, i, b, d, _, _, _, rfl⟩ := access_cases ha
    · simp [State.stageWord]
    · unfold State.fetchWord
      dsimp only
      split <;> simp
  | vote n i v => exact closed.takeVote n i v rfl
  | waitingStart n t ht =>
    obtain ⟨_, _, _, _, _, _, rfl⟩ := waitingStart_cases ht
    simp
  | cycleStart => exact closed.cycleStartWork rfl
  | syncPulse => exact closed.takePulse rfl
  | missedPulse => exact closed.changeDiscipline _ rfl
  | _ => simp

/-- Settles O2: no effect changes the queue of commands. -/
theorem execKeepsQueue : Obligations.ExecKeepsQueue := by
  unfold Obligations.ExecKeepsQueue
  intro c s t h
  obtain ⟨u, hu, hsame⟩ := exec_reaching c s t h
  exact hsame.pending.trans (effect_pending hu)

/-! ## The write window of a held STAGE (R76) -/

/-- Control leaves the write windows. -/
theorem controlClosed_writeWindow (n : Port) (w : Vector Word 32) : ControlClosed fun s => (s.port n).writeWindow = w where
  handAll s ps e h := by
    rw [handAll_port]
    split
    · simpa using h
    · exact h
  setBallot _ _ h := h
  setExchange _ _ h := h
  setTb _ _ h := h
  setFlag _ _ h := h
  applySwitch s h := by
    rw [applySwitch_port]
    split
    · simpa [PortState.aborted] using h
    · simpa using h
  passClear s h := by
    rw [passClear_port]
    split
    · simpa [PortState.aborted] using h
    · simpa using h

theorem effect_writeWindow {s u : State} {c : Instr} {n : Port} (he : Effect s c u)
    (hheld : (s.lane (laneOf n)).hold.isStage = true) (hpower : ∀ memb, c ≠ .powerOn memb) (hreset : c ≠ .resetN)
    (hport : c ≠ .portReset n) : (u.port n).writeWindow = (s.port n).writeWindow := by
  have closed := controlClosed_writeWindow n (s.port n).writeWindow
  cases he with
  | powerOn memb => exact absurd rfl (hpower memb)
  | resetN => exact absurd rfl hreset
  | resetNRelease =>
    rw [enterInit_port]
    simp [State.port]
  | clearDone =>
    have hnote (t : State) : (t.exchangeNote.port n).writeWindow = (t.port n).writeWindow := by
      rw [exchangeNote_eq, notedAll_port]
      simp
    exact hnote _
  | take m e rest =>
    rw [modPort_port]
    split
    · next h => rw [h]
    · rfl
  | writeWindow m f hfree =>
    rw [modPort_port]
    split
    · next h =>
      subst h
      rw [hfree] at hheld
      cases hheld
    · rfl
  | fetch m record r => exact (State.SameQueues.startFetch s m r n).writeWindow
  | vote m i v => exact closed.takeVote m i v rfl
  | freeze => exact closed.freezeExchange rfl (State.SameQueues.freezeAborts s n).writeWindow
  | portReset m =>
    rw [resetPort_port, if_neg]
    rintro rfl
    exact hport rfl
  | wordAccess l a t _ ha =>
    exact (State.SameQueues.endIfDone (t.setArbiter l) l n).writeWindow.trans (access_sameQueues (u := t) ha n).writeWindow
  | completeLane m => exact (State.SameQueues.completeLane s m n).writeWindow
  | waitingStart m t ht =>
    obtain ⟨_, _, _, _, _, _, rfl⟩ := waitingStart_cases ht
    simp [State.port]
  | tick => exact takePoints_keeps closed.handAll (fun _ _ _ hu => hu) rfl
  | cycleStart => exact closed.cycleStartWork rfl
  | switch => exact closed.applySwitch s rfl
  | syncPulse => exact closed.takePulse rfl
  | missedPulse => exact closed.changeDiscipline _ rfl
  | ballotExpiry b => exact closed.closeBallot b _ _ _ rfl
  | _ => simp [State.port]

/-- Settles O37: WRITE WINDOW is refused while the lane holds a STAGE, and no other effect but the excluded ones reaches the window. -/
theorem heldStageKeepsItsWriteWindow : Obligations.HeldStageKeepsItsWriteWindow := by
  unfold Obligations.HeldStageKeepsItsWriteWindow
  intro c s t n h hheld hpower hreset hport
  obtain ⟨u, hu, hsame⟩ := exec_reaching c s t h
  exact (hsame.port n).writeWindow.trans (effect_writeWindow hu hheld hpower hreset hport)

/-! ## The words of a pinned buffer (R35) -/

/-- Words of two buffers of one record are different words (R4). -/
theorem address_ne_of_buffers {d : RecordDef} {b b' : Buf} {i i' : Nat} (hb : b ≠ b') (hi : i < d.length)
    (hi' : i' < d.length) : d.address b i ≠ d.address b' i' := by
  unfold RecordDef.address
  have hval : b.val < b'.val ∨ b'.val < b.val := Nat.lt_or_gt_of_ne (Fin.val_ne_of_ne hb)
  rcases hval with h | h
  · have hstep : (b.val + 1) * d.length ≤ b'.val * d.length := Nat.mul_le_mul_right _ h
    rw [Nat.add_mul] at hstep
    omega
  · have hstep : (b'.val + 1) * d.length ≤ b.val * d.length := Nat.mul_le_mul_right _ h
    rw [Nat.add_mul] at hstep
    omega

/-- A word of a record's buffers lies in the record's group (R4). -/
theorem address_mem_group {d : RecordDef} (b : Buf) {i : Nat} (hi : i < d.length) :
    d.base ≤ d.address b i ∧ d.address b i < d.base + 3 * d.length := by
  have hstep : (b.val + 1) * d.length ≤ 3 * d.length := Nat.mul_le_mul_right _ b.isLt
  rw [Nat.add_mul] at hstep
  unfold RecordDef.address
  omega

/-- The groups of two records of a validated image share no word (R1, R16). -/
theorem Image.Validated.disjoint {im : Image} (h : im.Validated) {r q : RecNo} (hne : r ≠ q) {d e : RecordDef}
    (hd : im.defs[r] = some d) (he : im.defs[q] = some e) :
    ¬ (d.base < e.base + 3 * e.length ∧ e.base < d.base + 3 * d.length) := by
  intro hshare
  have hnone := Image.overlapRecord_eq_none.mp h.1
  rcases lt_or_gt_of_ne hne with hlt | hlt
  · exact hnone r q hlt ⟨d, e, hd, he, hshare⟩
  · exact hnone q r hlt ⟨e, d, he, hd, hshare.symm⟩

/-- An ACTIVE STAGE has its word index below its record's length. -/
theorem LaneOk_staging {s : State} {l : LaneNo} (h : s.LaneOk l) {r : RecNo} {i : Nat} (hhold : (s.lane l).hold = .staging r i) :
    ∃ d rt, s.activeDef r = some d ∧ s.runtime r = some rt ∧ l = laneOf d.owner ∧ rt.staging = .filling ∧ i < d.length := by
  unfold State.LaneOk at h
  rwa [hhold] at h

/-- Settles O38: the one word that a command writes lies in an STG buffer, which holds no pin, or in another record's group. -/
theorem pinnedBuffersKeepTheirWords : Obligations.PinnedBuffersKeepTheirWords := by
  unfold Obligations.PinnedBuffersKeepTheirWords
  rintro c s t r d rt b i h hclear _ ⟨hlanes, _, _, hbuffers, _⟩ _ hvalid hd hrt hpin hi
  obtain ⟨u, hu, hsame⟩ := exec_reaching c s t h
  rw [hsame.store]
  rcases effect_store hu with hstore | ⟨hc, _⟩ | ⟨_, n, q, j, e, rt', b', w, _, hhold, he, hrt', hstg, _, hwrite⟩
  · rw [hstore]
  · exact absurd hc hclear
  · have hj : j < e.length := by
      obtain ⟨e', _, he', _, _, _, hj⟩ := LaneOk_staging (hlanes (laneOf n)) hhold
      rw [he] at he'
      cases he'
      exact hj
    rw [hwrite]
    refine Memory.read_write_other _ _ ?_
    change d.address b i ≠ e.address b' j
    by_cases hrq : r = q
    · subst hrq
      rw [hd] at he
      rw [hrt] at hrt'
      cases he
      cases hrt'
      have hb : b ≠ b' := by
        rintro rfl
        obtain ⟨_, _, _, hfree, _, _⟩ := hbuffers r rt hrt
        have hzero := hfree b (rt.stgBuf_role b hstg)
        omega
      exact address_ne_of_buffers hb hi hj
    · intro heq
      have hmine := address_mem_group b hi
      have htheirs := address_mem_group b' hj
      exact hvalid.disjoint hrq hd he (by omega)

end Sys2Proof.Machine

/-! # The record table and the publication fields (R3, R5, R7, R44, R47) -/

namespace Sys2Proof.Machine

/-! ## What claims leave of a runtime -/

/-- The fields of a runtime that the laws of R44 and R47 speak of. -/
def Runtime.counts (rt : Runtime) : BitVec 16 × Health × Nat := (rt.version, rt.health, rt.missCount)

theorem Runtime.countsOk_of_counts {a b : Runtime} {limit : Nat} (h : b.counts = a.counts) (ha : a.CountsOk limit) :
    b.CountsOk limit := by
  obtain ⟨hv, hh, hm⟩ : b.version = a.version ∧ b.health = a.health ∧ b.missCount = a.missCount := by
    simpa [Runtime.counts] using h
  exact Runtime.countsOk_congr a limit hv hh hm ha

@[simp] theorem stageStart_counts (rt : Runtime) : rt.stageStart.counts = rt.counts := by
  unfold Runtime.stageStart
  split <;> rfl

@[simp] theorem stageEnd_counts (rt : Runtime) : rt.stageEnd.counts = rt.counts := by
  unfold Runtime.stageEnd
  split <;> rfl

@[simp] theorem abortActive_counts (rt : Runtime) : rt.abortActive.counts = rt.counts := by
  unfold Runtime.abortActive
  split <;> rfl

@[simp] theorem abortWaiting_counts (rt : Runtime) : rt.abortWaiting.counts = rt.counts := rfl

@[simp] theorem pin_counts (rt : Runtime) : rt.pin.counts = rt.counts := rfl

@[simp] theorem leaveBlocked_counts (rt : Runtime) (b : Buf) : (rt.leaveBlocked b).counts = rt.counts := rfl

@[simp] theorem unpin_counts (rt : Runtime) (b : Buf) : (rt.unpin b).counts = rt.counts := by
  unfold Runtime.unpin
  dsimp only
  split <;> rfl

/-- Two states have the same active image, and runtimes of the same records with the same counts. -/
structure State.SameCounts (s t : State) : Prop where
  active : t.active = s.active
  shadow : t.shadow = s.shadow
  counts : ∀ r, (t.runtime r).map Runtime.counts = (s.runtime r).map Runtime.counts

namespace State.SameCounts

theorem of_runtimes {s t : State} (ha : t.active = s.active) (hs : t.shadow = s.shadow) (hr : t.runtimes = s.runtimes) :
    s.SameCounts t :=
  ⟨ha, hs, fun r => by simp only [State.runtime, hr]⟩

theorem refl (s : State) : s.SameCounts s := of_runtimes rfl rfl rfl

theorem trans {s u t : State} (h : s.SameCounts u) (k : u.SameCounts t) : s.SameCounts t :=
  ⟨k.active.trans h.active, k.shadow.trans h.shadow, fun r => (k.counts r).trans (h.counts r)⟩

variable {s : State}

/-- A claim handed to a record's runtime. -/
theorem setRuntime {r : RecNo} {rt rt' : Runtime} (hrt : s.runtime r = some rt) (h : rt'.counts = rt.counts) :
    s.SameCounts (s.setRuntime r rt') := by
  refine ⟨rfl, rfl, fun q => ?_⟩
  rw [setRuntime_runtime]
  split
  · next hq => rw [hq, hrt, Option.map_some, Option.map_some, h]
  · rfl

theorem modRuntime (r : RecNo) {f : Runtime → Runtime} (h : ∀ rt, (f rt).counts = rt.counts) :
    s.SameCounts (s.modRuntime r f) := by
  unfold State.modRuntime
  split
  · next rt hrt => exact setRuntime hrt (h rt)
  · exact refl s

theorem startStage (n : Port) (r : RecNo) : s.SameCounts (s.startStage n r) := by
  unfold State.startStage
  split
  · next rt hrt => exact (setRuntime hrt (stageStart_counts rt)).trans (of_runtimes rfl rfl rfl)
  · exact refl s

theorem startFetch (n : Port) (r : RecNo) : s.SameCounts (s.startFetch n r) := by
  unfold State.startFetch
  split
  · next rt d hrt _ => exact (setRuntime hrt (pin_counts rt)).trans (of_runtimes rfl rfl rfl)
  · exact refl s

theorem startPeek (r : RecNo) (b : Byte) : s.SameCounts (s.startPeek r b) := by
  unfold State.startPeek
  split
  · next rt d hrt _ => exact (setRuntime hrt (pin_counts rt)).trans (of_runtimes rfl rfl rfl)
  · exact refl s

theorem unpinClaim (r : RecNo) (b : Buf) : s.SameCounts (s.unpinClaim r b) := by
  refine ⟨by simp, by simp, fun q => ?_⟩
  rw [unpinClaim_runtime]
  split
  · next hq => simp [hq, Function.comp_def]
  · rfl

theorem stageAbortClaim (l : LaneNo) : s.SameCounts (s.stageAbortClaim l) := by
  unfold State.stageAbortClaim
  split
  · exact modRuntime _ abortActive_counts
  · exact modRuntime _ abortWaiting_counts
  · exact refl s
  · exact refl s

theorem completeLane (n : Port) : s.SameCounts (s.completeLane n) := by
  have hend : s.SameCounts ((s.endTransfer (laneOf n) .ok).setXfer n) := of_runtimes (by simp) (by simp) (by simp)
  unfold State.completeLane
  dsimp only
  split
  · exact hend.trans (modRuntime _ stageEnd_counts)
  · exact (hend.trans (of_runtimes (by simp) (by simp) (by simp))).trans (unpinClaim (s := State.setDescState _ n .valid) _ _)
  · exact refl s
  · exact refl s

theorem completeLm : s.SameCounts s.completeLm := by
  unfold State.completeLm
  split
  · exact (of_runtimes (t := (s.endTransfer lm .ok).reportPeek .completed) (by simp) (by simp) (by simp)).trans
      (unpinClaim _ _)
  · exact refl s
  · exact refl s
  · exact refl s

theorem endIfDone (l : LaneNo) : s.SameCounts (s.endIfDone l) := by
  unfold State.endIfDone
  repeat' split
  · exact completeLane _
  · exact completeLm
  · exact refl s

theorem freezeAborts : s.SameCounts s.freezeAborts := by
  refine foldl_preserves _ (fun t => s.SameCounts t) (fun t n ht => ?_) allPorts s (refl s)
  split
  · exact (ht.trans (stageAbortClaim (laneOf n))).trans (of_runtimes (by simp) (by simp) (by simp))
  · exact ht

theorem resetPort (n : Port) : s.SameCounts (s.resetPort n) := by
  have habort : s.SameCounts (s.portResetAbort n) := by
    unfold State.portResetAbort
    split
    · exact (of_runtimes (t := s.endTransfer (laneOf n) .none) (by simp) (by simp) (by simp)).trans (unpinClaim _ _)
    all_goals exact (stageAbortClaim (laneOf n)).trans (of_runtimes (by simp) (by simp) (by simp))
  unfold State.resetPort
  exact habort.trans (of_runtimes (by simp) (by simp) (by simp))

theorem access {u : State} {l : LaneNo} {a : Nat} (h : s.access l = some (a, u)) : s.SameCounts u := by
  obtain ⟨_, _, _, _, _, _, _, _, _, _, _, _, rfl⟩ | ⟨r, i, b, d, _, _, _, rfl⟩ := access_cases h
  · exact of_runtimes rfl rfl rfl
  · unfold State.fetchWord
    dsimp only
    split
    · exact of_runtimes rfl rfl rfl
    · exact of_runtimes rfl rfl rfl

theorem waitingStart {u : State} {n : Port} (h : s.waitingStart n = some u) : s.SameCounts u := by
  obtain ⟨r, rt, b, _, hrt, _, rfl⟩ := waitingStart_cases h
  exact (setRuntime hrt (leaveBlocked_counts rt b)).trans (of_runtimes (by simp) (by simp) (by simp))

end State.SameCounts

/-! ## The laws -/

/-- A header reset leaves values in range (R5, R6). -/
theorem resetHeader_inRange (o : OptionStore) : o.resetHeader.inRange = true := by
  have hticks : 200 ≤ o.cycleTicks ∧ o.cycleTicks ≤ 50000 := by
    unfold OptionStore.cycleTicks
    split
    · next h =>
      simp only [Bool.and_eq_true, decide_eq_true_eq] at h
      exact ⟨h.1.2, h.2⟩
    · decide
  simp [SchedHeader.inRange, OptionStore.resetHeader, hticks]

theorem undefined_inRange (o : OptionStore) : (Image.undefined o.resetHeader).InRange := by
  refine ⟨fun r d h => ?_, resetHeader_inRange o⟩
  rw [undefined_defs] at h
  cases h

/-- With every record undefined and no runtime the laws hold. -/
theorem recordsOk_of_undefined {s : State} (o : OptionStore) (ha : s.active = Image.undefined o.resetHeader)
    (hs : s.shadow = Image.undefined o.resetHeader) (hr : s.runtimes = Vector.replicate 128 none) : s.RecordsOk := by
  refine ⟨⟨ha ▸ undefined_inRange o, hs ▸ undefined_inRange o⟩, fun r => ?_⟩
  have hd : s.activeDef r = none := by rw [State.activeDef, ha, undefined_defs]
  rw [hd, runtime_of_replicate hr]
  trivial

/-- The law of the counts, by cases. -/
theorem countsOk_some {s : State} (h : s.CountsOk) {r : RecNo} {d : RecordDef} {rt : Runtime} (hd : s.activeDef r = some d)
    (hrt : s.runtime r = some rt) : rt.CountsOk d.missLimit := by
  have hr := h r
  rw [hd, hrt] at hr
  exact hr

/-- A record has a runtime exactly where it is defined (R7). -/
theorem countsOk_defined {s : State} (h : s.CountsOk) (r : RecNo) :
    (∃ d rt, s.activeDef r = some d ∧ s.runtime r = some rt) ∨ (s.activeDef r = none ∧ s.runtime r = none) := by
  have hr := h r
  cases hd : s.activeDef r <;> cases hrt : s.runtime r
  · exact .inr ⟨rfl, rfl⟩
  · rw [hd, hrt] at hr
    exact hr.elim
  · rw [hd, hrt] at hr
    exact hr.elim
  · exact .inl ⟨_, _, rfl, rfl⟩

/-- What it takes to keep the law: every record has a runtime in order, or neither definition nor runtime. -/
theorem countsOk_intro {s : State}
    (h : ∀ r, (∃ d rt, s.activeDef r = some d ∧ s.runtime r = some rt ∧ rt.CountsOk d.missLimit)
      ∨ (s.activeDef r = none ∧ s.runtime r = none)) : s.CountsOk := by
  intro r
  rcases h r with ⟨d, rt, hd, hrt, hok⟩ | ⟨hd, hrt⟩
  · rw [hd, hrt]
    exact hok
  · rw [hd, hrt]
    trivial

theorem recordsOk_of_sameCounts {s t : State} (h : s.SameCounts t) (hs : s.RecordsOk) : t.RecordsOk := by
  obtain ⟨htable, hcounts⟩ := hs
  refine ⟨?_, countsOk_intro fun r => ?_⟩
  · unfold State.TableOk
    rw [h.active, h.shadow]
    exact htable
  · have hdef : t.activeDef r = s.activeDef r := by simp only [State.activeDef, h.active]
    have hsame := h.counts r
    rw [hdef]
    rcases countsOk_defined hcounts r with ⟨d, rt, hd, hrt⟩ | ⟨hd, hrt⟩
    · rw [hrt, Option.map_some] at hsame
      obtain ⟨rt', hrt', heq⟩ := Option.map_eq_some_iff.mp hsame
      exact .inl ⟨d, rt', hd, hrt', Runtime.countsOk_of_counts heq (countsOk_some hcounts hd hrt)⟩
    · rw [hrt, Option.map_none, Option.map_eq_none_iff] at hsame
      exact .inr ⟨hd, hsame⟩

/-! ## The points of a tick -/

/-- The runtime after a point, by the three outcomes of R43, R46 and R47. -/
theorem pointRuntime_eq (d : RecordDef) (rt : Runtime) (cycle : Byte) :
    pointRuntime d rt cycle
      = if rt.staging = .ready then rt.publish cycle else if rt.health = .unpublished then rt else rt.miss d.missLimit := by
  unfold pointRuntime Runtime.miss Runtime.missDeclares
  simp only [Bool.and_eq_true, decide_eq_true_eq]
  rfl

theorem missLimit_of_inRange {d : RecordDef} (h : d.inRange = true) : 1 ≤ d.missLimit := by
  simp only [RecordDef.inRange, Bool.and_eq_true, decide_eq_true_eq] at h
  obtain ⟨⟨⟨⟨_, hlimit⟩, _⟩, _⟩, _⟩ := h
  exact hlimit

theorem pointRuntime_countsOk {d : RecordDef} {rt : Runtime} (cycle : Byte) (hd : d.inRange = true)
    (h : rt.CountsOk d.missLimit) : (pointRuntime d rt cycle).CountsOk d.missLimit := by
  rw [pointRuntime_eq]
  split
  · exact rt.publish_countsOk cycle _ (missLimit_of_inRange hd)
  · split
    · exact h
    · next hpublished => exact rt.miss_countsOk _ h hpublished

/-- A record without definition or runtime takes no point. -/
theorem takePoint_cases (s : State) (r : RecNo) :
    s.takePoint r = s ∨ ∃ d rt, s.activeDef r = some d ∧ s.runtime r = some rt := by
  cases hd : s.activeDef r <;> cases hrt : s.runtime r
  case some.some => exact .inr ⟨_, _, rfl, rfl⟩
  all_goals exact .inl (by simp [State.takePoint, hd, hrt])

theorem takePoint_recordsOk {s : State} (r : RecNo) (h : s.RecordsOk) : (s.takePoint r).RecordsOk := by
  rcases takePoint_cases s r with hsame | ⟨d, rt, hd, hrt⟩
  · rw [hsame]
    exact h
  · obtain ⟨htable, hcounts⟩ := h
    refine ⟨by simpa [State.TableOk] using htable, countsOk_intro fun q => ?_⟩
    have hdef : (s.takePoint r).activeDef q = s.activeDef q := by simp [State.activeDef]
    rw [hdef, takePoint_runtime s r q d rt hd hrt]
    split
    · next hq =>
      subst hq
      exact .inl ⟨d, _, hd, rfl, pointRuntime_countsOk _ (htable.1.1 q d hd) (countsOk_some hcounts hd hrt)⟩
    · rcases countsOk_defined hcounts q with ⟨e, rt', he, hrt'⟩ | hnone
      · exact .inl ⟨e, rt', he, hrt', countsOk_some hcounts he hrt'⟩
      · exact .inr hnone

theorem takePoints_recordsOk {s : State} (h : s.RecordsOk) : s.takePoints.RecordsOk := by
  refine foldl_preserves _ State.RecordsOk (fun u r hu => ?_) allRecords s h
  split
  · exact takePoint_recordsOk r hu
  · exact hu

/-! ## Switches -/

/-- The runtime that a switch leaves to a record that the shadow defines is in order (R131, R132). -/
theorem recClass_runtime_countsOk {s : State} (h : s.CountsOk) {r : RecNo} {e : RecordDef} (he : s.shadowDef r = some e)
    (hlimit : 1 ≤ e.missLimit) : ∃ rt, (s.recClass r).runtime (s.runtime r) = some rt ∧ rt.CountsOk e.missLimit := by
  unfold State.recClass
  rcases countsOk_defined h r with ⟨d, rt, hd, hrt⟩ | ⟨hd, hrt⟩
  · rw [hd, he, hrt, classify]
    split
    · exact ⟨_, rfl, rt.kept_countsOk _ _ hlimit (countsOk_some h hd hrt)⟩
    · exact ⟨_, rfl, Runtime.initial_countsOk _⟩
  · rw [hd, he]
    exact ⟨_, rfl, Runtime.initial_countsOk _⟩

/-- A record that the shadow does not define has no runtime after a switch (R133). -/
theorem recClass_runtime_none {s : State} {r : RecNo} (he : s.shadowDef r = none) :
    (s.recClass r).runtime (s.runtime r) = none := by
  unfold State.recClass
  rw [he]
  cases s.activeDef r <;> rfl

theorem applySwitch_recordsOk {s : State} (h : s.RecordsOk) : s.applySwitch.RecordsOk := by
  obtain ⟨htable, hcounts⟩ := h
  refine ⟨?_, countsOk_intro fun r => ?_⟩
  · unfold State.TableOk
    simpa [applySwitch_active] using htable.2
  · have hdef : s.applySwitch.activeDef r = s.shadowDef r := by
      simp only [State.activeDef, State.shadowDef, applySwitch_active]
    rw [hdef, applySwitch_runtime]
    cases he : s.shadowDef r with
    | none => exact .inr ⟨rfl, recClass_runtime_none he⟩
    | some e =>
      obtain ⟨rt, hrt, hok⟩ := recClass_runtime_countsOk hcounts he (missLimit_of_inRange (htable.2.1 r e he))
      exact .inl ⟨e, rt, rfl, hrt, hok⟩

/-! ## Every step -/

theorem controlClosed_recordsOk : ControlClosed State.RecordsOk where
  handAll s ps e h := recordsOk_of_sameCounts (.of_runtimes (by simp) (by simp) (by simp)) h
  setBallot _ _ h := h
  setExchange _ _ h := h
  setTb _ _ h := h
  setFlag _ _ h := h
  applySwitch _ h := applySwitch_recordsOk h
  passClear s _ := by
    obtain ⟨hactive, hshadow, hruntimes⟩ := passClear_table s
    exact recordsOk_of_undefined s.opt hactive hshadow hruntimes

theorem enterInit_recordsOk (s : State) : s.enterInit.RecordsOk := by
  obtain ⟨hactive, hshadow, hruntimes⟩ := enterInit_table s
  exact recordsOk_of_undefined s.opt hactive hshadow hruntimes

theorem effect_recordsOk {s u : State} {c : Instr} (he : Effect s c u) (h : s.RecordsOk) : u.RecordsOk := by
  have closed := controlClosed_recordsOk
  cases he with
  | stay => exact h
  | powerOn => exact enterInit_recordsOk _
  | powerLoss => exact h
  | resetN => exact recordsOk_of_undefined s.opt rfl rfl rfl
  | resetNRelease => exact enterInit_recordsOk _
  | clearDone => exact recordsOk_of_sameCounts (.of_runtimes (by simp) (by simp) (by simp)) h
  | take => exact h
  | writeWindow => exact h
  | edit i _ hrange => exact ⟨⟨h.1.1, hrange h.1⟩, h.2⟩
  | stage n record r => exact recordsOk_of_sameCounts (.startStage n r) h
  | fetch n record r => exact recordsOk_of_sameCounts (.startFetch n r) h
  | peek record r => exact recordsOk_of_sameCounts (.startPeek r record) h
  | vote n i v => exact closed.takeVote n i v h
  | freeze => exact closed.freezeExchange h (recordsOk_of_sameCounts .freezeAborts h)
  | portReset n => exact recordsOk_of_sameCounts (.resetPort n) h
  | wordAccess l a t _ ha =>
    exact recordsOk_of_sameCounts (.endIfDone (s := t.setArbiter l) l)
      (recordsOk_of_sameCounts (t := t) (.access ha) h)
  | completeLane n => exact recordsOk_of_sameCounts (.completeLane n) h
  | completeLm => exact recordsOk_of_sameCounts .completeLm h
  | waitingStart n t ht => exact recordsOk_of_sameCounts (.waitingStart ht) h
  | tick => exact takePoints_recordsOk h
  | cycleStart => exact closed.cycleStartWork h
  | switch => exact applySwitch_recordsOk h
  | pulseEnd => exact h
  | syncPulse => exact closed.takePulse h
  | missedPulse => exact closed.changeDiscipline _ h
  | ballotTimer => exact h
  | ballotExpiry b => exact closed.closeBallot b _ _ _ h

/-- Settles O56: claims leave the counts, a point and a switch keep their laws, and an edit is checked for its ranges. -/
theorem everyStepKeepsTheRecordLaws : Obligations.EveryStepKeepsTheRecordLaws := by
  unfold Obligations.EveryStepKeepsTheRecordLaws
  intro s t hstep hs
  exact step_keeps (Q := State.RecordsOk) (fun _ _ h => h) (fun _ h => h)
    (fun u t hsame hu => recordsOk_of_sameCounts (.of_runtimes hsame.active hsame.shadow hsame.runtimes) hu)
    (fun _ _ _ he h => effect_recordsOk he h) (fun _ _ h => h) hstep hs

end Sys2Proof.Machine

/-! # The active image, the shadow's lock, the ballot and the flag (R1, R2, R113, R114, R121, R122, R129) -/

namespace Sys2Proof.Machine

/-! ## What the laws read -/

/-- Two states agree in the images, the exchange state, the ballot record, the flag, the members and the reset pin. -/
structure State.SameControl (s t : State) : Prop where
  resetLow : t.resetLow = s.resetLow
  members : t.members = s.members
  active : t.active = s.active
  shadow : t.shadow = s.shadow
  exchange : t.exchange = s.exchange
  ballot : t.ballot = s.ballot
  switchPending : t.switchPending = s.switchPending

theorem State.SameControl.trans {s u t : State} (h : s.SameControl u) (k : u.SameControl t) : s.SameControl t :=
  ⟨k.resetLow.trans h.resetLow, k.members.trans h.members, k.active.trans h.active, k.shadow.trans h.shadow,
    k.exchange.trans h.exchange, k.ballot.trans h.ballot, k.switchPending.trans h.switchPending⟩

theorem shadowLocked_iff (s : State) :
    s.shadowLocked = true ↔ s.switchPending = true ∨ ∃ b, s.ballot.current = some b ∧ b.item = .commit := by
  simp [State.shadowLocked, State.openItem]

theorem controlOk_of_same {s t : State} (h : s.SameControl t) (hs : s.ControlOk) : t.ControlOk := by
  have hlock : t.shadowLocked = s.shadowLocked := by
    simp only [State.shadowLocked, State.openItem, h.switchPending, h.ballot]
  have hmember (n : Port) : t.isMember n = s.isMember n := by simp only [State.isMember, h.members]
  unfold State.ControlOk State.ScheduleOk State.BallotOk at hs ⊢
  simp only [hlock, hmember, h.resetLow, h.active, h.shadow, h.exchange, h.ballot, h.switchPending]
  exact hs

/-- Timebase fields agree with themselves. -/
theorem sameTimebase_refl (k : SchedHeader) : k.sameTimebase k = true := by simp [SchedHeader.sameTimebase]

theorem undefined_validated (k : SchedHeader) : (Image.undefined k).Validated := by
  constructor
  · exact Image.overlapRecord_eq_none.mpr fun i j _ ⟨d, _, hd, _⟩ => by
      rw [undefined_defs] at hd
      cases hd
  · exact Image.beyondRecord_eq_none.mpr fun r ⟨d, hd, _⟩ => by
      rw [undefined_defs] at hd
      cases hd

/-! ## The laws by name, and consequences of them -/

section Laws

variable {s : State}

theorem State.ControlOk.active_validated (h : s.ControlOk) : s.active.Validated := h.1.1

theorem State.ControlOk.shadow_validated (h : s.ControlOk) : s.shadowLocked = true → s.shadow.Validated := h.1.2.1

theorem State.ControlOk.shadow_timebase (h : s.ControlOk) :
    s.shadowLocked = true → s.exchange ≠ .config → s.shadow.header.sameTimebase s.active.header = true := h.1.2.2

theorem State.ControlOk.ballot (h : s.ControlOk) (b : OpenBallot) (hb : s.ballot.current = some b) :
    b.item.allowedIn s.exchange = true ∧ (∀ n : Port, s.isMember n = false → b.votes[n] = .none) ∧ b.elapsed ≤ b.limit :=
  h.2.1 b hb

theorem State.ControlOk.flag (h : s.ControlOk) : s.switchPending = true → s.exchange.switchesAtCycleStart = true := h.2.2.1

theorem State.ControlOk.reset (h : s.ControlOk) : s.resetLow = true → s.exchange = .init := h.2.2.2

/-- With the flag set the shadow is the one validated. -/
theorem shadow_validated_of_flag (h : s.ControlOk) (hp : s.switchPending = true) : s.shadow.Validated :=
  h.shadow_validated ((shadowLocked_iff s).mpr (.inl hp))

/-- Out of INIT the reset pin is high. -/
theorem resetLow_of_ne_init (h : s.ControlOk) (hx : s.exchange ≠ .init) : s.resetLow = false := by
  cases hr : s.resetLow
  · rfl
  · exact absurd (h.reset hr) hx

/-- In CONFIG, INIT and HALTED the flag is clear (R129). -/
theorem flag_of_not_switches (h : s.ControlOk) (hx : s.exchange.switchesAtCycleStart = false) : s.switchPending = false := by
  cases hp : s.switchPending
  · rfl
  · exact absurd (h.flag hp) (by rw [hx]; decide)

/-- An item that some state allows is not allowed in INIT (R114). -/
theorem not_allowedIn_init (i : Item) : i.allowedIn .init = false := by cases i <;> rfl

theorem ne_init_of_allowedIn {i : Item} {x : ExState} (h : i.allowedIn x = true) : x ≠ .init := by
  rintro rfl
  rw [not_allowedIn_init] at h
  cases h

/-- START is allowed in CONFIG only (R114). -/
theorem start_allowedIn {x : ExState} (h : Item.start.allowedIn x = true) : x = .config := by
  revert h
  cases x <;> decide

/-- Out of CONFIG the states that allow COMMIT are states in which a switch can be pending (R114, R129). -/
theorem commit_allowedIn {x : ExState} (h : Item.commit.allowedIn x = true) (hx : x ≠ .config) :
    x.switchesAtCycleStart = true := by
  revert h hx
  cases x <;> decide

/-- In INIT no ballot is open. -/
theorem ballot_of_init (h : s.ControlOk) (hx : s.exchange = .init) : s.ballot.current = none := by
  cases hb : s.ballot.current with
  | none => rfl
  | some b => exact absurd hx (ne_init_of_allowedIn (h.ballot b hb).1)

end Laws

/-! ## Images replaced -/

/-- With both images undefined, no ballot and a clear flag, in INIT, the laws hold. -/
theorem controlOk_of_undefined {s : State} (k : SchedHeader) (ha : s.active = Image.undefined k)
    (hs : s.shadow = Image.undefined k) (hb : s.ballot.current = none) (hp : s.switchPending = false)
    (hx : s.exchange = .init) : s.ControlOk := by
  refine ⟨⟨?_, fun _ => ?_, fun _ _ => ?_⟩, fun b h => ?_, fun h => ?_, fun _ => hx⟩
  · rw [ha]
    exact undefined_validated k
  · rw [hs]
    exact undefined_validated k
  · rw [ha, hs]
    exact sameTimebase_refl _
  · rw [hb] at h
    cases h
  · rw [hp] at h
    cases h

theorem enterInit_controlOk {s : State} (hb : s.ballot.current = none) (hp : s.switchPending = false) :
    s.enterInit.ControlOk := by
  obtain ⟨hactive, hshadow, _⟩ := enterInit_table s
  exact controlOk_of_undefined _ hactive hshadow (by simpa using hb) (by simpa using hp) (enterInit_exchange s).1

theorem passClear_controlOk {s : State} (hb : s.ballot.current = none) : s.passClear.ControlOk := by
  unfold State.passClear
  exact enterInit_controlOk (by simpa using hb) rfl

/-- A shadow that is not locked may change. -/
theorem setShadow_controlOk {s : State} (i : Image) (hlock : s.shadowLocked = false) (h : s.ControlOk) :
    (s.setShadow i).ControlOk := by
  refine ⟨⟨h.active_validated, fun hl => ?_, fun hl => ?_⟩, h.2⟩
  · rw [setShadow_shadowLocked, hlock] at hl
    cases hl
  · rw [setShadow_shadowLocked, hlock] at hl
    cases hl

/-- A switch to a validated shadow keeps the laws (R134). -/
theorem applySwitch_controlOk {s : State} (h : s.ControlOk) (hv : s.shadow.Validated) : s.applySwitch.ControlOk := by
  obtain ⟨_, hballot, _, hreset⟩ := h
  refine ⟨⟨?_, fun _ => ?_, fun _ _ => ?_⟩, ?_, fun hp => ?_, ?_⟩
  · rw [applySwitch_active]
    exact hv
  · simpa using hv
  · rw [applySwitch_active]
    simpa using sameTimebase_refl _
  · simpa [State.isMember] using hballot
  · rw [applySwitch_switchPending] at hp
    cases hp
  · simpa using hreset

/-! ## Ballots and changes of exchange state -/

/-- A ballot in order may stand in place of the one open. -/
theorem setBallot_controlOk {s : State} {b : OpenBallot} (last : LastOutcome) (h : s.ControlOk)
    (hallowed : b.item.allowedIn s.exchange = true) (hvotes : ∀ n, s.isMember n = false → b.votes[n] = .none)
    (helapsed : b.elapsed ≤ b.limit)
    (hcommit : b.item = .commit → s.shadow.Validated
      ∧ (s.exchange ≠ .config → s.shadow.header.sameTimebase s.active.header = true)) :
    (s.setBallot ⟨some b, last⟩).ControlOk := by
  obtain ⟨⟨hactive, hshadow, htimebase⟩, _, hflag, hreset⟩ := h
  have hlocked (hl : (s.setBallot ⟨some b, last⟩).shadowLocked = true) : s.switchPending = true ∨ b.item = .commit := by
    rcases (shadowLocked_iff _).mp hl with hp | ⟨b', hb', hitem⟩
    · exact .inl hp
    · cases hb'
      exact .inr hitem
  refine ⟨⟨hactive, fun hl => ?_, fun hl hx => ?_⟩, fun b' hb' => ?_, hflag, hreset⟩
  · rcases hlocked hl with hp | hitem
    · exact hshadow ((shadowLocked_iff s).mpr (.inl hp))
    · exact (hcommit hitem).1
  · rcases hlocked hl with hp | hitem
    · exact htimebase ((shadowLocked_iff s).mpr (.inl hp)) hx
    · exact (hcommit hitem).2 hx
  · cases hb'
    exact ⟨hallowed, hvotes, helapsed⟩

/-- With no ballot open the laws ask less. -/
theorem clearBallot_controlOk {s : State} (last : LastOutcome) (h : s.ControlOk) : (s.setBallot ⟨none, last⟩).ControlOk := by
  obtain ⟨⟨hactive, hshadow, htimebase⟩, _, hflag, hreset⟩ := h
  have hlocked (hl : (s.setBallot ⟨none, last⟩).shadowLocked = true) : s.shadowLocked = true := by
    rcases (shadowLocked_iff _).mp hl with hp | ⟨b', hb', _⟩
    · exact (shadowLocked_iff s).mpr (.inl hp)
    · cases hb'
  refine ⟨⟨hactive, fun hl => hshadow (hlocked hl), fun hl => htimebase (hlocked hl)⟩, fun b' hb' => ?_, hflag, hreset⟩
  cases hb'

theorem handAll_sameControl (s : State) (ps : PortSet) (e : Entry) : s.SameControl (s.handAll ps e) := by
  constructor <;> simp

theorem closeBallot_ballot (s : State) (b : OpenBallot) (o : BallotOutcome) (w : Reason) (r : RecNo) :
    (s.closeBallot b o w r).ballot = ⟨none, ⟨some b.item, some o, w, r⟩⟩ := by
  simp [State.closeBallot]

theorem closeBallot_controlOk {s : State} (b : OpenBallot) (o : BallotOutcome) (w : Reason) (r : RecNo) (h : s.ControlOk) :
    (s.closeBallot b o w r).ControlOk :=
  controlOk_of_same (handAll_sameControl ..) (clearBallot_controlOk _ h)

/-- The ballot after a cancellation is one that the state allows. -/
theorem cancelDisallowed_ballot (s : State) (x : ExState) {b : OpenBallot} (hb : (s.cancelDisallowed x).ballot.current = some b) :
    s.ballot.current = some b ∧ b.item.allowedIn x = true := by
  unfold State.cancelDisallowed at hb
  split at hb
  · next b' hb' =>
    split at hb
    · next hallowed =>
      rw [hb'] at hb
      cases hb
      exact ⟨hb', hallowed⟩
    · rw [closeBallot_ballot] at hb
      cases hb
  · next hnone =>
    rw [hnone] at hb
    cases hb

theorem changeExchange_exchange (s : State) (x : ExState) : (s.changeExchange x).exchange = x := by
  simp [State.changeExchange]

theorem changeExchange_ballot (s : State) (x : ExState) : (s.changeExchange x).ballot = (s.cancelDisallowed x).ballot := by
  simp [State.changeExchange]

/-- A change of exchange state keeps the laws where the flag may stand in the new state, and where it does not leave CONFIG with
the shadow locked. -/
theorem changeExchange_controlOk {s : State} {x : ExState} (h : s.ControlOk) (hx : s.exchange ≠ .init)
    (hflag : s.switchPending = true → x.switchesAtCycleStart = true)
    (hfrom : s.exchange ≠ .config ∨ x = .config ∨ s.shadowLocked = false) : (s.changeExchange x).ControlOk := by
  have hpin := resetLow_of_ne_init h hx
  obtain ⟨⟨hactive, hshadow, htimebase⟩, hballot, _, _⟩ := h
  have hlocked (hl : (s.changeExchange x).shadowLocked = true) : s.shadowLocked = true := by
    rcases (shadowLocked_iff _).mp hl with hp | ⟨b, hb, hitem⟩
    · exact (shadowLocked_iff s).mpr (.inl (by simpa using hp))
    · rw [changeExchange_ballot] at hb
      exact (shadowLocked_iff s).mpr (.inr ⟨b, (cancelDisallowed_ballot s x hb).1, hitem⟩)
  refine ⟨⟨by simpa using hactive, fun hl => by simpa using hshadow (hlocked hl), fun hl hne => ?_⟩, fun b hb => ?_, fun hp => ?_,
    fun hr => ?_⟩
  · rw [changeExchange_exchange] at hne
    rcases hfrom with hout | hconfig | hfree
    · simpa using htimebase (hlocked hl) hout
    · exact absurd hconfig hne
    · rw [hlocked hl] at hfree
      cases hfree
  · rw [changeExchange_ballot] at hb
    obtain ⟨hbefore, hallowed⟩ := cancelDisallowed_ballot s x hb
    rw [changeExchange_exchange]
    obtain ⟨_, hvotes, helapsed⟩ := hballot b hbefore
    exact ⟨hallowed, by simpa [State.isMember] using hvotes, helapsed⟩
  · rw [changeExchange_exchange]
    exact hflag (by simpa using hp)
  · simp [hpin] at hr

theorem enterConfig_controlOk {s : State} (h : s.ControlOk) (hx : s.exchange ≠ .init) : s.enterConfig.ControlOk := by
  unfold State.enterConfig
  split
  · next hp =>
    refine changeExchange_controlOk (applySwitch_controlOk h (shadow_validated_of_flag h hp)) (by simpa using hx) (fun hp' => ?_)
      (.inr (.inl rfl))
    rw [applySwitch_switchPending] at hp'
    cases hp'
  · next hp => exact changeExchange_controlOk h hx (fun hp' => absurd hp' hp) (.inr (.inl rfl))

/-- FREEZE leaves HALTED with a clear flag and no COMMIT open (R107). -/
theorem freezeExchange_controlOk {s : State} (h : s.ControlOk) (hx : s.exchange ≠ .init) : s.freezeExchange.ControlOk := by
  have hpin := resetLow_of_ne_init h hx
  have hactive := h.active_validated
  have hballot := h.ballot
  have hfrozen (t : State) (hactive : t.active.Validated)
      (hballot : ∀ b, t.ballot.current = some b → b.item.allowedIn .halted = true
        ∧ (∀ n, t.isMember n = false → b.votes[n] = .none) ∧ b.elapsed ≤ b.limit) (hexchange : t.exchange = .halted)
      (hflag : t.switchPending = false) (hpin : t.resetLow = false) : t.ControlOk := by
    have hfree (hl : t.shadowLocked = true) : False := by
      rcases (shadowLocked_iff t).mp hl with hp | ⟨b, hb, hitem⟩
      · rw [hflag] at hp
        cases hp
      · have hallowed := (hballot b hb).1
        rw [hitem] at hallowed
        cases hallowed
    refine ⟨⟨hactive, fun hl => (hfree hl).elim, fun hl => (hfree hl).elim⟩, ?_, fun hp => ?_, fun hr => ?_⟩
    · rw [hexchange]
      exact hballot
    · rw [hflag] at hp
      cases hp
    · rw [hpin] at hr
      cases hr
  unfold State.freezeExchange
  split
  · next hhalted =>
    have hflag := flag_of_not_switches h (by rw [hhalted]; rfl)
    exact hfrozen s hactive (hhalted ▸ hballot) hhalted hflag hpin
  · refine hfrozen _ (by simpa using hactive) (fun b hb => ?_) (by simp) ?_ (by simpa using hpin)
    · have hb' : (s.freezeAborts.cancelDisallowed .halted).ballot.current = some b := by simpa using hb
      obtain ⟨hbefore, hallowed⟩ := cancelDisallowed_ballot _ _ hb'
      obtain ⟨_, hvotes, helapsed⟩ := hballot b (by simpa using hbefore)
      exact ⟨hallowed, by simpa [State.isMember] using hvotes, helapsed⟩
    · simp only [exchangeNote_frame, setExchange_switchPending]
      unfold State.dropSwitch
      split
      · simp
      · next hp => simpa using hp

/-! ## Passed ballots and votes -/

/-- The effect of a passed item keeps the laws where the state allows the item and, for COMMIT, the shadow is the one validated. -/
theorem passEffect_controlOk {s : State} {i : Item} (h : s.ControlOk) (hb : s.ballot.current = none)
    (hallowed : i.allowedIn s.exchange = true)
    (hcommit : i = .commit → s.shadow.Validated
      ∧ (s.exchange ≠ .config → s.shadow.header.sameTimebase s.active.header = true)) : (s.passEffect i).ControlOk := by
  have hinit := ne_init_of_allowedIn hallowed
  cases i with
  | start =>
    have hconfig := start_allowedIn hallowed
    have hflag : s.switchPending = false := flag_of_not_switches h (by rw [hconfig]; rfl)
    refine changeExchange_controlOk h hinit (fun hp => ?_) (.inr (.inr ?_))
    · rw [hflag] at hp
      cases hp
    · rw [← Bool.not_eq_true, shadowLocked_iff]
      simp [hflag, hb]
  | stop =>
    unfold State.passEffect
    dsimp only
    split
    · next hrun => exact changeExchange_controlOk h hinit (fun _ => rfl) (.inl (by rw [hrun]; decide))
    · exact enterConfig_controlOk h hinit
  | commit =>
    obtain ⟨hvalid, hsame⟩ := hcommit rfl
    unfold State.passEffect
    dsimp only
    split
    · exact applySwitch_controlOk h hvalid
    · next hout =>
      exact ⟨⟨h.active_validated, fun _ => hvalid, fun _ => hsame⟩, h.ballot, fun _ => commit_allowedIn hallowed hout, h.reset⟩
  | release => exact enterConfig_controlOk h hinit
  | clear => exact passClear_controlOk hb

theorem settleBallot_controlOk {s : State} (h : s.ControlOk) : s.settleBallot.ControlOk := by
  unfold State.settleBallot
  split
  · exact h
  · next b hb =>
    have hclosed (o : BallotOutcome) (w : Reason) := closeBallot_controlOk b o w 0 h
    split
    · exact h
    · next o w _ =>
      dsimp only
      split
      · refine passEffect_controlOk (hclosed o w) (by rw [closeBallot_ballot]) ?_ fun hitem => ?_
        · simpa using (h.ballot b hb).1
        · have hlock : s.shadowLocked = true := (shadowLocked_iff s).mpr (.inr ⟨b, hb, hitem⟩)
          exact ⟨by simpa using h.shadow_validated hlock, by simpa using h.shadow_timebase hlock⟩
      · exact hclosed o w

/-- A shadow that COMMIT validation passes is validated, with the active timebase fields out of CONFIG (R16). -/
theorem validated_of_validate {s : State} (h : s.validate = none) :
    s.shadow.Validated ∧ (s.exchange ≠ .config → s.shadow.header.sameTimebase s.active.header = true) := by
  have hover : s.shadow.overlapRecord = none := by
    cases ho : s.shadow.overlapRecord with
    | none => rfl
    | some i => rw [State.validate_of_overlapRecord ho] at h; cases h
  have hbeyond : s.shadow.beyondRecord = none := by
    cases hb : s.shadow.beyondRecord with
    | none => rfl
    | some r => rw [State.validate_of_beyondRecord hover hb] at h; cases h
  refine ⟨⟨hover, hbeyond⟩, fun hx => ?_⟩
  by_contra hdiff
  have hlocked : s.TimebaseLocked :=
    ⟨hx, SchedHeader.sameTimebase_eq_false_iff.mp (Bool.eq_false_iff.mpr hdiff)⟩
  rw [State.validate_of_timebaseLocked hover hbeyond hlocked] at h
  cases h

theorem validate_setBallot (s : State) (b : BallotRecord) : (s.setBallot b).validate = s.validate := rfl

/-- A ballot that a member's YES opens is in order (R116). -/
theorem newBallot_votes {s : State} {n : Port} (i : Item) (hn : s.isMember n = true) (m : Port) (hm : s.isMember m = false) :
    (s.newBallot n i).votes[m] = .none := by
  have hne : (n : Nat) ≠ m := by
    intro he
    obtain rfl : n = m := Fin.ext he
    rw [hn] at hm
    cases hm
  have hset : ((Vector.replicate 4 Vote.none).set n .yes)[m.val] = (Vector.replicate 4 Vote.none)[m.val] :=
    Vector.getElem_set_ne n.isLt m.isLt hne
  exact hset.trans (Vector.getElem_replicate m.isLt)

/-- Setting a member's vote leaves the non-members without one. -/
theorem votes_set {s : State} {n : Port} {votes : Vector Vote 4} (v : Vote) (hn : s.isMember n = true)
    (h : ∀ m, s.isMember m = false → votes[m] = .none) (m : Port) (hm : s.isMember m = false) :
    (votes.set n v)[m] = .none := by
  have hne : (n : Nat) ≠ m := by
    intro he
    obtain rfl : n = m := Fin.ext he
    rw [hn] at hm
    cases hm
  have hset : (votes.set n v)[m.val] = votes[m.val] := Vector.getElem_set_ne n.isLt m.isLt hne
  exact hset.trans (h m hm)

/-- A VOTE that is not refused names an item that the state allows (R115). -/
theorem allowedIn_of_voteCodesCheck {s : State} {n : Port} {i : Item} {v : Vote} (h : s.voteCodesCheck n i v = none) :
    i.allowedIn s.exchange = true := by
  obtain ⟨hfirst, _⟩ := or_eq_none h
  obtain ⟨hfirst, _⟩ := or_eq_none hfirst
  simpa using refuseIf_eq_none (or_eq_none hfirst).2

/-- A vote taken settles a ballot in order, or closes a COMMIT whose validation failed. -/
theorem takeVote_cases {s : State} {n : Port} {i : Item} {v : Vote} (h : s.ControlOk) (hn : s.isMember n = true)
    (hcheck : s.voteCodesCheck n i v = none) :
    (∃ b, s.takeVote n i v = (s.setBallot b).settleBallot ∧ (s.setBallot b).ControlOk)
      ∨ ∃ b w r, s.takeVote n i v = s.closeBallot b .failed w r := by
  have hallowed := allowedIn_of_voteCodesCheck hcheck
  unfold State.takeVote
  split
  · have hopened (hcommit : i = .commit → s.validate = none) :
        (s.setBallot { s.ballot with current := some (s.newBallot n i) }).ControlOk :=
      setBallot_controlOk _ h hallowed (newBallot_votes i hn) (Nat.zero_le _) fun hi => validated_of_validate (hcommit hi)
    unfold State.openBallot
    dsimp only
    rw [validate_setBallot]
    split
    · next reason r _ => exact .inr ⟨s.newBallot n i, reason, r, rfl⟩
    · next hvalid =>
      refine .inl ⟨_, rfl, hopened fun hi => ?_⟩
      rwa [if_pos hi] at hvalid
  · next b hb =>
    obtain ⟨hitem, hvotes, helapsed⟩ := h.ballot b hb
    refine .inl ⟨_, rfl, setBallot_controlOk _ h hitem (votes_set v hn hvotes) helapsed fun hi => ?_⟩
    have hlock : s.shadowLocked = true := (shadowLocked_iff s).mpr (.inr ⟨b, hb, hi⟩)
    exact ⟨h.shadow_validated hlock, h.shadow_timebase hlock⟩

theorem takeVote_controlOk {s : State} {n : Port} {i : Item} {v : Vote} (h : s.ControlOk) (hn : s.isMember n = true)
    (hcheck : s.voteCodesCheck n i v = none) : (s.takeVote n i v).ControlOk := by
  rcases takeVote_cases h hn hcheck with ⟨b, heq, hok⟩ | ⟨b, w, r, heq⟩
  · rw [heq]
    exact settleBallot_controlOk hok
  · rw [heq]
    exact closeBallot_controlOk b .failed w r h

theorem withdrawVote_controlOk {s : State} (n : Port) (h : s.ControlOk) : (s.withdrawVote n).ControlOk := by
  unfold State.withdrawVote
  split
  · next b hb =>
    split
    · next hn =>
      obtain ⟨hitem, hvotes, helapsed⟩ := h.ballot b hb
      refine setBallot_controlOk _ h hitem (votes_set .none hn hvotes) helapsed fun hi => ?_
      have hlock : s.shadowLocked = true := (shadowLocked_iff s).mpr (.inr ⟨b, hb, hi⟩)
      exact ⟨h.shadow_validated hlock, h.shadow_timebase hlock⟩
    · exact h
  · exact h

/-! ## The Timebase's reports and the cycle start -/

theorem setTb_controlOk {s : State} (tb : Timebase) (h : s.ControlOk) : (s.setTb tb).ControlOk := h

theorem changeDiscipline_controlOk {s : State} (tb : Timebase) (h : s.ControlOk) : (s.changeDiscipline tb).ControlOk := by
  have hnote : (s.setTb tb).timebaseNote.ControlOk := controlOk_of_same (handAll_sameControl ..) (setTb_controlOk tb h)
  unfold State.changeDiscipline State.reportDiscipline
  dsimp only
  repeat' split
  · exact h
  · next hrun =>
    have hrun' : s.exchange = .run := hrun
    exact changeExchange_controlOk hnote (by simp [hrun']) (fun _ => rfl) (.inl (by simp [hrun']))
  · next hstopping =>
    have hstopping' : s.exchange = .stopping := hstopping
    exact enterConfig_controlOk hnote (by simp [hstopping'])
  · exact hnote
  · exact hnote

/-- A cycle start that has applied the switch moves the exchange with a clear flag (R105). -/
theorem cycleStartMove_controlOk {s : State} (h : s.ControlOk) (hp : s.switchPending = false) : s.cycleStartMove.ControlOk := by
  have hmove {x : ExState} (hx : s.exchange ≠ .init) (hout : s.exchange ≠ .config) : (s.changeExchange x).ControlOk :=
    changeExchange_controlOk h hx (fun hp' => by rw [hp] at hp'; cases hp') (.inl hout)
  unfold State.cycleStartMove
  split
  · next hx => exact hmove (by rw [hx]; decide) (by rw [hx]; decide)
  · next hx =>
    split
    · exact hmove (by rw [hx]; decide) (by rw [hx]; decide)
    · exact h
  · next hx =>
    split
    · exact hmove (by rw [hx]; decide) (by rw [hx]; decide)
    · exact h
  all_goals exact h

theorem cycleStartWork_controlOk {s : State} (h : s.ControlOk) : s.cycleStartWork.ControlOk := by
  unfold State.cycleStartWork
  split
  · next hdue =>
    have hp : s.switchPending = true := (Bool.and_eq_true_iff.mp hdue).1
    exact cycleStartMove_controlOk (applySwitch_controlOk h (shadow_validated_of_flag h hp)) (applySwitch_switchPending s)
  · next hnot =>
    refine cycleStartMove_controlOk h ?_
    cases hp : s.switchPending
    · rfl
    · exact absurd (Bool.and_eq_true_iff.mpr ⟨hp, h.flag hp⟩) hnot

theorem phaseStep_controlOk {s : State} (tb : Timebase) (h : s.ControlOk) : (s.phaseStep tb).ControlOk :=
  cycleStartWork_controlOk (setTb_controlOk _ (changeDiscipline_controlOk _ h))

theorem takePulse_controlOk {s : State} (h : s.ControlOk) : s.takePulse.ControlOk := by
  unfold State.takePulse
  split
  · exact changeDiscipline_controlOk _ h
  · exact phaseStep_controlOk _ h

/-! ## Every step -/

theorem finishClear_controlOk {s : State} (hl : s.live = true) (hx : s.exchange = .init) (h : s.ControlOk) :
    s.finishClear.ControlOk := by
  have hpin : s.resetLow = false := by simpa using (Bool.and_eq_true_iff.mp hl).2
  have hb := ballot_of_init h hx
  have hp : s.switchPending = false := flag_of_not_switches h (by rw [hx]; rfl)
  have hexchange : s.finishClear.exchange = .config := by simp [State.finishClear]
  have hfree (hl : s.finishClear.shadowLocked = true) : False := by
    rcases (shadowLocked_iff _).mp hl with hp' | ⟨b, hb', _⟩
    · simp [hp] at hp'
    · simp [hb] at hb'
  refine ⟨⟨by simpa using h.active_validated, fun hl => (hfree hl).elim, fun hl => (hfree hl).elim⟩, fun b hb' => ?_, fun hp' => ?_,
    fun hr => ?_⟩
  · simp [hb] at hb'
  · simp [hp] at hp'
  · simp [hpin] at hr

theorem access_sameControl {s u : State} {l : LaneNo} {a : Nat} (h : s.access l = some (a, u)) : s.SameControl u := by
  obtain ⟨_, _, _, _, _, _, _, _, _, _, _, _, rfl⟩ | ⟨r, i, b, d, _, _, _, rfl⟩ := access_cases h
  · exact ⟨rfl, rfl, rfl, rfl, rfl, rfl, rfl⟩
  · unfold State.fetchWord
    dsimp only
    split
    · exact ⟨rfl, rfl, rfl, rfl, rfl, rfl, rfl⟩
    · exact ⟨rfl, rfl, rfl, rfl, rfl, rfl, rfl⟩

theorem portResetAbort_sameControl (s : State) (n : Port) (f : PortState → PortState) :
    s.SameControl ((s.portResetAbort n).modPort n f) := by
  constructor <;> simp

theorem effect_controlOk {s u : State} {c : Instr} (he : Effect s c u) (h : s.ControlOk) : u.ControlOk := by
  cases he with
  | stay => exact h
  | powerOn => exact enterInit_controlOk rfl rfl
  | powerLoss => exact h
  | resetN => exact controlOk_of_undefined s.opt.resetHeader rfl rfl rfl rfl rfl
  | resetNRelease hr =>
    have hx := h.reset hr
    have hp := flag_of_not_switches h (by rw [hx]; rfl)
    have hb := ballot_of_init h hx
    exact enterInit_controlOk hb hp
  | clearDone hl hx => exact finishClear_controlOk hl hx h
  | edit i hlock _ => exact setShadow_controlOk i hlock h
  | vote n i v hm hcheck => exact takeVote_controlOk h hm hcheck
  | freeze hx => exact freezeExchange_controlOk h hx
  | portReset n => exact withdrawVote_controlOk n (controlOk_of_same (portResetAbort_sameControl s n _) h)
  | wordAccess l a t _ ha =>
    exact controlOk_of_same (t := (t.setArbiter l).endIfDone l) (by constructor <;> simp)
      (controlOk_of_same (access_sameControl ha) h)
  | waitingStart n t ht =>
    obtain ⟨_, _, _, _, _, _, rfl⟩ := waitingStart_cases ht
    exact controlOk_of_same (by constructor <;> simp) h
  | cycleStart => exact cycleStartWork_controlOk h
  | switch hp => exact applySwitch_controlOk h (shadow_validated_of_flag h hp)
  | pulseEnd => exact h
  | syncPulse => exact takePulse_controlOk h
  | missedPulse => exact changeDiscipline_controlOk _ h
  | ballotTimer b hb hlt =>
    obtain ⟨hitem, hvotes, _⟩ := h.ballot b hb
    refine setBallot_controlOk _ h hitem hvotes hlt fun hi => ?_
    have hlock : s.shadowLocked = true := (shadowLocked_iff s).mpr (.inr ⟨b, hb, hi⟩)
    exact ⟨h.shadow_validated hlock, h.shadow_timebase hlock⟩
  | ballotExpiry b => exact closeBallot_controlOk b _ _ _ h
  | _ => exact controlOk_of_same (by constructor <;> simp) h

/-- Settles O58: a switch is applied and a flag set only for a shadow that was validated and has stayed locked since. -/
theorem everyStepKeepsTheControlLaws : Obligations.EveryStepKeepsTheControlLaws := by
  unfold Obligations.EveryStepKeepsTheControlLaws
  intro s t hstep hs
  exact step_keeps (Q := State.ControlOk) (fun _ _ h => h) (fun _ h => h)
    (fun u t hsame hu => controlOk_of_same
      ⟨hsame.resetLow, hsame.members, hsame.active, hsame.shadow, hsame.exchange, hsame.ballot, hsame.switchPending⟩ hu)
    (fun _ _ _ he h => effect_controlOk he h) (fun _ _ h => h) hstep hs

end Sys2Proof.Machine

/-! # The Timebase in range, and aligned while publishing (R40, R141, R142, R144, R145, R147, 09 section 9.4) -/

namespace Sys2Proof.Machine

/-! ## The laws of a Timebase under a schedule header -/

/-- The laws of R141 to R147 and of 09 section 9.4 on a Timebase under a schedule header, with R144's on the mode. -/
structure Timebase.Ok (tb : Timebase) (h : SchedHeader) : Prop where
  ranges : tb.RangesOk h
  counters : tb.CountersOk h
  master : h.mode = .master →
    tb.trim = 0 ∧ tb.acquireRun = 0 ∧ tb.lockRun = 0 ∧ tb.missedRun = 0 ∧ tb.holdoverCount = 0
  mode : h.mode = .master ↔ tb.discipline = .master

/-- The Timebase in order and the law of R40. -/
structure State.ClockOk (s : State) : Prop where
  timebase : s.tb.Ok s.active.header
  aligned : s.AlignedWhilePublishing

theorem clockOk_iff (s : State) : s.ClockOk ↔ s.TimebaseOk ∧ s.ModeOk ∧ s.AlignedWhilePublishing :=
  ⟨fun h => ⟨⟨h.timebase.ranges, h.timebase.counters, h.timebase.master⟩, h.timebase.mode, h.aligned⟩,
    fun ⟨⟨hranges, hcounters, hmaster⟩, hmode, haligned⟩ => ⟨⟨hranges, hcounters, hmaster, hmode⟩, haligned⟩⟩

/-- States with the same Timebase, active image and exchange state share the laws. -/
theorem clockOk_of_same {s t : State} (htb : t.tb = s.tb) (ha : t.active = s.active) (hx : t.exchange = s.exchange)
    (h : s.ClockOk) : t.ClockOk := by
  refine ⟨?_, ?_⟩
  · rw [htb, ha]
    exact h.timebase
  · unfold State.AlignedWhilePublishing
    rw [htb, hx]
    exact h.aligned

/-- The lower bounds of a header in range (R5). -/
theorem SchedHeader.lower_bounds {h : SchedHeader} (hr : h.inRange = true) :
    200 ≤ h.cycleTicks ∧ 1 ≤ h.nAcq ∧ 1 ≤ h.nLock ∧ 1 ≤ h.holdoverLimit := by
  simp only [SchedHeader.inRange, Bool.and_eq_true, decide_eq_true_eq] at hr
  omega

theorem SchedHeader.eq_of_sameTimebase {h k : SchedHeader} (hs : h.sameTimebase k = true) :
    h.mode = k.mode ∧ h.cycleTicks = k.cycleTicks ∧ h.nAcq = k.nAcq ∧ h.nLock = k.nLock
      ∧ h.holdoverLimit = k.holdoverLimit := by
  simp only [SchedHeader.sameTimebase, Bool.and_eq_true, decide_eq_true_eq] at hs
  obtain ⟨⟨⟨⟨⟨⟨⟨hmode, hticks⟩, _⟩, _⟩, hacq⟩, hlock⟩, hhold⟩, _⟩ := hs
  exact ⟨hmode, hticks, hacq, hlock, hhold⟩

namespace Timebase.Ok

variable {tb : Timebase} {h : SchedHeader}

theorem of_sameTimebase {k : SchedHeader} (ht : tb.Ok k) (hs : h.sameTimebase k = true) : tb.Ok h := by
  obtain ⟨hmode, hticks, hacq, hlock, hhold⟩ := SchedHeader.eq_of_sameTimebase hs
  obtain ⟨hranges, hcounters, hmaster, hdiscipline⟩ := ht
  constructor
  · unfold Timebase.RangesOk
    rw [hticks]
    exact hranges
  · unfold Timebase.CountersOk
    rw [hacq, hlock, hhold]
    exact hcounters
  · rw [hmode]
    exact hmaster
  · rw [hmode]
    exact hdiscipline

theorem zero_mem_trimRange : -Config.trimLimit ≤ (0 : Int) ∧ (0 : Int) ≤ Config.trimLimit := by decide

/-- What a stop or a restart sets is in order (R143). -/
theorem fresh (running : Bool) (hr : h.inRange = true) : (Timebase.fresh h.mode running).Ok h := by
  obtain ⟨hticks, hacq, hlock, _⟩ := SchedHeader.lower_bounds hr
  refine ⟨⟨?_, ?_, ?_, ?_⟩, ⟨?_, ?_, ?_, ?_, ?_, ?_⟩, fun _ => ⟨rfl, rfl, rfl, rfl, rfl⟩, ?_⟩
  · exact zero_mem_trimRange
  · exact Nat.lt_of_lt_of_le (by decide : 0 < 200) hticks
  · change 0 < 8
    decide
  · exact Nat.zero_le _
  · exact Nat.zero_le _
  · exact fun _ => hacq
  · exact Nat.zero_le _
  · exact fun _ => hlock
  · exact Nat.zero_le _
  · exact Nat.zero_le _
  · change h.mode = .master ↔ h.mode.discipline = .master
    cases h.mode <;> decide

/-- Ticks, credits and marks may change within the ranges: the counters, the trim and the discipline stay. -/
theorem of_same (ht : tb.Ok h) {t : Timebase} (htrim : t.trim = tb.trim) (hd : t.discipline = tb.discipline)
    (ha : t.acquireRun = tb.acquireRun) (hl : t.lockRun = tb.lockRun) (hm : t.missedRun = tb.missedRun)
    (hh : t.holdoverCount = tb.holdoverCount) (htick : t.tickCount < h.cycleTicks) (hage : t.syncOutAge < 8)
    (hspurious : t.spurious ≤ Config.spuriousMax) : t.Ok h := by
  obtain ⟨⟨htr, _, _, _⟩, hcounters, hmaster, hmode⟩ := ht
  constructor
  · exact ⟨htrim ▸ htr, htick, hage, hspurious⟩
  · unfold Timebase.CountersOk
    rw [ha, hd, hl, hm, hh]
    exact hcounters
  · rw [htrim, ha, hl, hm, hh]
    exact hmaster
  · rw [hd]
    exact hmode

/-- The next tick is counted below the cycle ticks and before the pulse of SYNCOUT has lasted 8 ticks (R142, R145). -/
theorem countTick (ht : tb.Ok h) (htick : tb.tickCount + 1 < h.cycleTicks) (hage : tb.syncOut = true → tb.syncOutAge < 7) :
    tb.countTick.Ok h := by
  obtain ⟨_, _, hold, hspurious⟩ := ht.ranges
  refine ht.of_same rfl rfl rfl rfl rfl rfl htick ?_ hspurious
  unfold Timebase.countTick
  dsimp only
  split
  · next hout => exact Nat.succ_lt_succ (hage hout)
  · exact hold

theorem handTick (ht : tb.Ok h) (hnext : tb.tickHanded = true → tb.countTick.Ok h) : tb.handTick.Ok h := by
  unfold Timebase.handTick
  split
  · next hhanded =>
    have hcount := hnext hhanded
    obtain ⟨_, htick, hage, hspurious⟩ := hcount.ranges
    exact hcount.of_same rfl rfl rfl rfl rfl rfl htick hage hspurious
  · obtain ⟨_, htick, hage, hspurious⟩ := ht.ranges
    exact ht.of_same rfl rfl rfl rfl rfl rfl htick hage hspurious

theorem nextCycle (ht : tb.Ok h) (credit : Bool) (hr : h.inRange = true) : (tb.nextCycle credit).Ok h := by
  obtain ⟨_, _, hage, hspurious⟩ := ht.ranges
  refine ht.of_same rfl rfl rfl rfl rfl rfl (Nat.lt_of_lt_of_le (by decide : 0 < 200) (SchedHeader.lower_bounds hr).1) ?_ hspurious
  unfold Timebase.nextCycle
  dsimp only
  split
  · decide
  · exact hage

/-! ## Pulses and missed pulses -/

/-- A discipline other than MASTER tells FOLLOWER mode, in which the laws of MASTER mode ask nothing. -/
theorem follower (ht : tb.Ok h) (hd : tb.discipline ≠ .master) : h.mode ≠ .master := mt ht.mode.mp hd

/-- In FOLLOWER mode any discipline but MASTER goes with counters in range. -/
theorem of_follower {t : Timebase} (hm : h.mode ≠ .master) (hd : t.discipline ≠ .master) (hr : t.RangesOk h)
    (hc : t.CountersOk h) : t.Ok h :=
  ⟨hr, hc, fun e => absurd e hm, ⟨fun e => absurd e hm, fun e => absurd e hd⟩⟩

theorem clampTrim_mem (x : Int) : -Config.trimLimit ≤ clampTrim x ∧ clampTrim x ≤ Config.trimLimit := by
  unfold clampTrim Config.trimLimit
  omega

theorem credit (ht : tb.Ok h) (e : Int) : (tb.credit e).Ok h := by
  obtain ⟨_, htick, hage, hspurious⟩ := ht.ranges
  unfold Timebase.credit
  split
  · exact ht.of_same rfl rfl rfl rfl rfl rfl htick hage hspurious
  · exact ht.of_same rfl rfl rfl rfl rfl rfl htick hage hspurious

theorem credit_discipline (tb : Timebase) (e : Int) : (tb.credit e).discipline = tb.discipline := by
  unfold Timebase.credit
  split <;> rfl

theorem correct_ranges (ht : tb.Ok h) (gain e : Int) : (tb.correct gain e).RangesOk h := by
  obtain ⟨_, hrest⟩ := ht.ranges
  exact ⟨clampTrim_mem _, hrest⟩

/-- The correction of the trim in FOLLOWER mode (R149). -/
theorem correct (ht : tb.Ok h) (hd : tb.discipline ≠ .master) (gain e : Int) : (tb.correct gain e).Ok h :=
  .of_follower (ht.follower hd) hd (ht.correct_ranges gain e) ht.counters

end Timebase.Ok

/-- The Timebase that a pulse's effect leaves or steps from is in order. -/
def PulseEffect.Ok (x : PulseEffect) (h : SchedHeader) : Prop :=
  match x with
  | .settle tb | .step tb => tb.Ok h

section Pulses

variable {tb : Timebase} {h : SchedHeader} (ht : tb.Ok h) (hr : h.inRange = true) (e : Int)
include ht hr

theorem acquirePulse_ok (hd : tb.discipline = .acquire) : (tb.acquirePulse h e).Ok h := by
  have hm := ht.follower (by rw [hd]; decide)
  obtain ⟨_, hacq, hlock⟩ := SchedHeader.lower_bounds hr
  have hranges := ht.correct_ranges 8 e
  obtain ⟨ha, hacquire, hl, htrack, _, hh⟩ := ht.counters
  have hlt := hacquire hd
  have hd' : tb.discipline ≠ .track := by rw [hd]; decide
  have hd'' : tb.discipline ≠ .master := by rw [hd]; decide
  unfold Timebase.acquirePulse
  dsimp only
  split
  · split
    · refine .of_follower hm nofun hranges ⟨hlt, fun x => ?_, Nat.zero_le _, fun _ => hlock.1, Nat.zero_le _, hh⟩
      cases x
    · next hmore =>
      exact .of_follower hm hd'' hranges
        ⟨hlt, fun _ => Nat.lt_of_not_le hmore, hl, fun x => absurd x hd', Nat.zero_le _, hh⟩
  · exact .of_follower hm hd'' hranges ⟨Nat.zero_le _, fun _ => hacq, hl, fun x => absurd x hd', Nat.zero_le _, hh⟩

theorem trackPulse_ok (hd : tb.discipline = .track) : (tb.trackPulse h e).Ok h := by
  have hnot : tb.discipline ≠ .master := by rw [hd]; decide
  have hm := ht.follower hnot
  obtain ⟨_, _, hlock, _⟩ := SchedHeader.lower_bounds hr
  have hranges := ht.correct_ranges 1 e
  obtain ⟨ha, hacquire, hl, htrack, hmiss, hh⟩ := ht.counters
  have hlt := htrack hd
  unfold Timebase.trackPulse
  dsimp only
  split
  · split
    · refine .of_follower hm nofun hranges ⟨ha, fun x => ?_, hlt, fun x => ?_, hmiss, hh⟩
      · cases x
      · cases x
    · next hmore => exact .of_follower hm hnot hranges ⟨ha, hacquire, hlt, fun _ => Nat.lt_of_not_le hmore, hmiss, hh⟩
  · split
    · exact .of_follower hm hnot hranges ⟨ha, hacquire, Nat.zero_le _, fun _ => hlock, hmiss, hh⟩
    · exact ht.correct hnot 1 e

theorem lockedPulse_ok (hd : tb.discipline = .locked) : (tb.lockedPulse h e).Ok h := by
  have hnot : tb.discipline ≠ .master := by rw [hd]; decide
  obtain ⟨_, _, hlock, _⟩ := SchedHeader.lower_bounds hr
  obtain ⟨ha, _, _, _, hmiss, hh⟩ := ht.counters
  unfold Timebase.lockedPulse
  dsimp only
  split
  · exact ht.correct hnot 1 e
  · split
    · refine .of_follower (ht.follower hnot) nofun (ht.correct_ranges 1 e)
        ⟨ha, fun x => ?_, Nat.zero_le _, fun _ => hlock, hmiss, hh⟩
      cases x
    · exact ht.correct hnot 1 e

theorem holdoverPulse_ok (hd : tb.discipline = .holdover) : (tb.holdoverPulse h e).Ok h := by
  have hnot : tb.discipline ≠ .master := by rw [hd]; decide
  obtain ⟨_, _, hlock, _⟩ := SchedHeader.lower_bounds hr
  obtain ⟨ha, _, _, _, hmiss, hh⟩ := ht.counters
  unfold Timebase.holdoverPulse
  split
  · refine .of_follower (ht.follower hnot) nofun ht.ranges ⟨ha, fun x => ?_, Nat.zero_le _, fun _ => hlock, hmiss, hh⟩
    cases x
  · exact ht

theorem pulse_ok : (tb.pulse h e).Ok h := by
  obtain ⟨_, hacq, hlock, _⟩ := SchedHeader.lower_bounds hr
  have hspurious : ({ tb with spurious := min Config.spuriousMax (tb.spurious + 1) } : Timebase).Ok h := by
    obtain ⟨_, htick, hage, _⟩ := ht.ranges
    exact ht.of_same rfl rfl rfl rfl rfl rfl htick hage (Nat.min_le_left _ _)
  have hd := Timebase.Ok.credit_discipline tb e
  unfold Timebase.pulse
  split
  · exact ht
  · next hseek =>
    have hnot : tb.discipline ≠ .master := by rw [hseek]; decide
    obtain ⟨ha, hacquire, _, htrack, hmiss, _⟩ := ht.counters
    exact .of_follower (ht.follower hnot) hnot ht.ranges
      ⟨ha, hacquire, Nat.zero_le _, fun _ => hlock, hmiss, Nat.zero_le _⟩
  · next hmaster hseek =>
    split
    · exact hspurious
    · split
      · next hx => exact acquirePulse_ok (ht.credit e) hr e (hd.trans hx)
      · next hx => exact trackPulse_ok (ht.credit e) hr e (hd.trans hx)
      · next hx => exact lockedPulse_ok (ht.credit e) hr e (hd.trans hx)
      · next hacquire htrack hlocked =>
        refine holdoverPulse_ok (ht.credit e) hr e (hd.trans ?_)
        cases hx : tb.discipline with
        | holdover => rfl
        | master => exact absurd hx hmaster
        | seek => exact absurd hx hseek
        | acquire => exact absurd hx hacquire
        | track => exact absurd hx htrack
        | locked => exact absurd hx hlocked

omit hr in
/-- An entry to SEEK clears trim and counters (R151, R154). -/
theorem toSeek_ok (hnot : tb.discipline ≠ .master) : tb.toSeek.Ok h := by
  obtain ⟨_, hrest⟩ := ht.ranges
  refine .of_follower (ht.follower hnot) nofun ⟨Timebase.Ok.zero_mem_trimRange, hrest⟩
    ⟨Nat.zero_le _, fun x => ?_, Nat.zero_le _, fun x => ?_, Nat.zero_le _, Nat.zero_le _⟩
  · cases x
  · cases x

omit e in
theorem missed_ok : (tb.missed h).Ok h := by
  obtain ⟨_, _, _, hhold⟩ := SchedHeader.lower_bounds hr
  obtain ⟨ha, hacquire, hl, htrack, hmiss, hh⟩ := ht.counters
  have entersHoldover (hnot : tb.discipline ≠ .master) :
      ({ tb with discipline := .holdover, holdoverCount := 1 } : Timebase).Ok h := by
    refine .of_follower (ht.follower hnot) nofun ht.ranges ⟨ha, fun x => ?_, hl, fun x => ?_, hmiss, hhold⟩
    · cases x
    · cases x
  unfold Timebase.missed
  split
  · next hd =>
    have hnot : tb.discipline ≠ .master := by rw [hd]; decide
    split
    · exact toSeek_ok ht hnot
    · next hfew =>
      exact .of_follower (ht.follower hnot) hnot ht.ranges ⟨ha, hacquire, hl, htrack, Nat.le_of_not_le hfew, hh⟩
  · next hd => exact entersHoldover (by rw [hd]; decide)
  · next hd => exact entersHoldover (by rw [hd]; decide)
  · next hd =>
    have hnot : tb.discipline ≠ .master := by rw [hd]; decide
    split
    · exact toSeek_ok ht hnot
    · next hfew =>
      exact .of_follower (ht.follower hnot) hnot ht.ranges ⟨ha, hacquire, hl, htrack, hmiss, Nat.le_of_not_le hfew⟩
  · exact ht
  · exact ht

end Pulses

/-! ## Control operations -/

/-- The tables stay in range through the exchange's control. -/
theorem controlClosed_tableOk : ControlClosed State.TableOk where
  handAll s ps e h := by simpa [State.TableOk] using h
  setBallot _ _ h := h
  setExchange _ _ h := h
  setTb _ _ h := h
  setFlag _ _ h := h
  applySwitch s h := by simpa [State.TableOk, applySwitch_active] using h.2
  passClear s _ := by
    obtain ⟨hactive, hshadow, _⟩ := passClear_table s
    exact ⟨hactive ▸ undefined_inRange _, hshadow ▸ undefined_inRange _⟩

section Control

variable {s : State}

theorem takesPoints_iff (x : ExState) : x.takesPoints = true ↔ x = .run ∨ x = .stopping := by cases x <;> decide

/-- Publishing is off in a state that takes no points. -/
theorem aligned_of_not_publishing (h : s.exchange.takesPoints = false) : s.AlignedWhilePublishing := by
  intro hx
  rw [h] at hx
  cases hx

theorem closeBallot_clockOk (b : OpenBallot) (o : BallotOutcome) (w : Reason) (r : RecNo) (h : s.ClockOk) :
    (s.closeBallot b o w r).ClockOk := clockOk_of_same (by simp) (by simp) (by simp) h

theorem changeExchange_clockOk {x : ExState} (h : s.ClockOk)
    (hx : x.takesPoints = true → s.tb.discipline ≠ .seek ∧ s.tb.discipline ≠ .acquire) : (s.changeExchange x).ClockOk := by
  refine ⟨by simpa using h.timebase, fun hp => ?_⟩
  rw [changeExchange_exchange] at hp
  simpa using hx hp

/-- A switch leaves the Timebase, or restarts it in CONFIG (R135, R137). -/
theorem applySwitch_tb_cases (s : State) :
    (s.applySwitch.tb = s.tb ∧ (s.exchange = .config → s.shadow.header.sameTimebase s.active.header = true))
      ∨ (s.applySwitch.tb = .fresh s.shadow.header.mode true ∧ s.exchange = .config) := by
  rw [applySwitch_timebase]
  split
  · next hrestart => exact .inr ⟨rfl, hrestart.1⟩
  · next hkeep => exact .inl ⟨rfl, fun hx => by simpa [hx] using hkeep⟩

/-- A switch keeps the Timebase in order: it restarts it where a timebase field changes (R137). -/
theorem applySwitch_tbOk (h : s.tb.Ok s.active.header) (hrange : s.shadow.header.inRange = true)
    (hsame : s.exchange ≠ .config → s.shadow.header.sameTimebase s.active.header = true) :
    s.applySwitch.tb.Ok s.applySwitch.active.header := by
  rw [applySwitch_active]
  rcases applySwitch_tb_cases s with ⟨htb, hconfig⟩ | ⟨htb, _⟩
  · rw [htb]
    refine h.of_sameTimebase ?_
    by_cases hx : s.exchange = .config
    · exact hconfig hx
    · exact hsame hx
  · rw [htb]
    exact .fresh true hrange

theorem applySwitch_aligned (h : s.AlignedWhilePublishing) : s.applySwitch.AlignedWhilePublishing := by
  rcases applySwitch_tb_cases s with ⟨htb, _⟩ | ⟨_, hx⟩
  · intro hx
    rw [htb]
    exact h (by simpa using hx)
  · exact aligned_of_not_publishing (by simp [hx, ExState.takesPoints])

/-- A pending switch changes no timebase field out of CONFIG. -/
theorem applySwitch_pending_tbOk (h : s.tb.Ok s.active.header) (hc : s.ControlOk) (ht : s.TableOk)
    (hp : s.switchPending = true) : s.applySwitch.tb.Ok s.applySwitch.active.header :=
  applySwitch_tbOk h ht.2.2 (hc.shadow_timebase ((shadowLocked_iff s).mpr (.inl hp)))

/-- CONFIG takes no points, so the entry asks nothing of the discipline. -/
theorem enterConfig_clockOk (h : s.tb.Ok s.active.header) (hc : s.ControlOk) (ht : s.TableOk) : s.enterConfig.ClockOk := by
  refine ⟨?_, aligned_of_not_publishing ?_⟩
  · unfold State.enterConfig
    split
    · next hp => simpa using applySwitch_pending_tbOk h hc ht hp
    · simpa using h
  · unfold State.enterConfig
    rw [changeExchange_exchange]
    rfl

theorem freezeExchange_clockOk (h : s.ClockOk) : s.freezeExchange.ClockOk := by
  unfold State.freezeExchange
  split
  · exact h
  · exact ⟨by simpa using h.timebase, aligned_of_not_publishing (by simp [ExState.takesPoints])⟩

theorem enterInit_clockOk (s : State) : s.enterInit.ClockOk := by
  obtain ⟨hactive, _, _⟩ := enterInit_table s
  refine ⟨?_, aligned_of_not_publishing ?_⟩
  · rw [enterInit_tb, hactive]
    exact .fresh false (resetHeader_inRange s.opt)
  · rw [(enterInit_exchange s).1]
    rfl

theorem passClear_clockOk (s : State) : s.passClear.ClockOk := by
  unfold State.passClear
  exact enterInit_clockOk _

theorem passEffect_clockOk {i : Item} (h : s.ClockOk) (hc : s.ControlOk) (ht : s.TableOk)
    (hcommit : i = .commit → s.exchange ≠ .config → s.shadow.header.sameTimebase s.active.header = true) :
    (s.passEffect i).ClockOk := by
  cases i with
  | start => exact changeExchange_clockOk h fun hx => by cases hx
  | stop =>
    unfold State.passEffect
    dsimp only
    split
    · next hrun => exact changeExchange_clockOk h fun _ => h.aligned (by rw [hrun]; rfl)
    · exact enterConfig_clockOk h.timebase hc ht
  | commit =>
    unfold State.passEffect
    dsimp only
    split
    · exact ⟨applySwitch_tbOk h.timebase ht.2.2 (hcommit rfl), applySwitch_aligned h.aligned⟩
    · exact ⟨h.timebase, h.aligned⟩
  | release => exact enterConfig_clockOk h.timebase hc ht
  | clear => exact passClear_clockOk s

theorem settleBallot_clockOk (h : s.ClockOk) (hc : s.ControlOk) (ht : s.TableOk) : s.settleBallot.ClockOk := by
  unfold State.settleBallot
  split
  · exact h
  · next b hb =>
    split
    · exact h
    · next o w _ =>
      have hclosed := closeBallot_clockOk b o w 0 h
      dsimp only
      split
      · refine passEffect_clockOk hclosed (closeBallot_controlOk b o w 0 hc) (controlClosed_tableOk.closeBallot b o w 0 ht)
          fun hitem => ?_
        simpa using hc.shadow_timebase ((shadowLocked_iff s).mpr (.inr ⟨b, hb, hitem⟩))
      · exact hclosed

theorem setBallot_clockOk (b : BallotRecord) (h : s.ClockOk) : (s.setBallot b).ClockOk := ⟨h.timebase, h.aligned⟩

/-- A vote keeps the laws, for what it opens or records is a ballot in order. -/
theorem takeVote_clockOk {n : Port} {i : Item} {v : Vote} (h : s.ClockOk) (hc : s.ControlOk) (ht : s.TableOk)
    (hn : s.isMember n = true) (hcheck : s.voteCodesCheck n i v = none) : (s.takeVote n i v).ClockOk := by
  rcases takeVote_cases hc hn hcheck with ⟨b, hb, hok⟩ | ⟨b, w, r, hb⟩
  · rw [hb]
    exact settleBallot_clockOk (setBallot_clockOk _ h) hok ht
  · rw [hb]
    exact closeBallot_clockOk _ _ _ _ h

/-! ## The discipline's reports and the cycle start -/

theorem changeDiscipline_clockOk {tb : Timebase} (h : s.ClockOk) (hc : s.ControlOk) (ht : s.TableOk)
    (htb : tb.Ok s.active.header) : (s.changeDiscipline tb).ClockOk := by
  have hnotetb : (s.setTb tb).timebaseNote.tb.Ok (s.setTb tb).timebaseNote.active.header := by simpa using htb
  unfold State.changeDiscipline State.reportDiscipline
  dsimp only
  split
  · next hsame =>
    refine ⟨htb, fun hx => ?_⟩
    have hbefore := h.aligned hx
    rw [← hsame] at hbefore
    exact hbefore
  · split
    · split
      · exact ⟨by simpa using htb, aligned_of_not_publishing (by rw [changeExchange_exchange]; rfl)⟩
      · next hrun =>
        split
        · next hstopping =>
          have hnote : (s.setTb tb).timebaseNote.ControlOk := controlOk_of_same (handAll_sameControl ..) (setTb_controlOk tb hc)
          have htable : (s.setTb tb).timebaseNote.TableOk := controlClosed_tableOk.handAll _ _ _ ht
          exact enterConfig_clockOk hnotetb hnote htable
        · next hstopping =>
          refine ⟨by simpa using htb, fun hx => ?_⟩
          rcases (takesPoints_iff _).mp hx with hx | hx
          · exact absurd (by simpa using hx) hrun
          · exact absurd (by simpa using hx) hstopping
    · next hd =>
      refine ⟨hnotetb, fun _ => ?_⟩
      have hneither : ¬ (decide (tb.discipline = .seek) || decide (tb.discipline = .acquire)) = true := hd
      simpa using hneither

theorem cycleStartMove_clockOk (h : s.ClockOk) : s.cycleStartMove.ClockOk := by
  unfold State.cycleStartMove
  split
  · exact changeExchange_clockOk h nofun
  · split
    · next hd =>
      have haligned : s.tb.discipline = .master ∨ s.tb.discipline = .locked := by simpa using hd
      exact changeExchange_clockOk h fun _ => by rcases haligned with hd | hd <;> simp [hd]
    · exact h
  · split
    · next hd => exact changeExchange_clockOk h fun _ => by simp [hd]
    · exact h
  all_goals exact h

theorem cycleStartWork_clockOk (h : s.ClockOk) (hc : s.ControlOk) (ht : s.TableOk) : s.cycleStartWork.ClockOk := by
  unfold State.cycleStartWork
  split
  · next hdue =>
    have hp : s.switchPending = true := (Bool.and_eq_true_iff.mp hdue).1
    exact cycleStartMove_clockOk ⟨applySwitch_pending_tbOk h.timebase hc ht hp, applySwitch_aligned h.aligned⟩
  · exact cycleStartMove_clockOk h

/-- A cycle may start wherever the laws hold: the discipline stays. -/
theorem nextCycle_clockOk (credit : Bool) (h : s.ClockOk) (ht : s.TableOk) : (s.setTb (s.tb.nextCycle credit)).ClockOk :=
  ⟨h.timebase.nextCycle credit ht.1.2, h.aligned⟩

/-- The Timebase that a phase step reports (R155). -/
theorem enterAcquire_ok {tb : Timebase} {k : SchedHeader} (h : tb.Ok k) (hr : k.inRange = true) (hmode : k.mode ≠ .master) :
    ({ tb with discipline := .acquire, acquireRun := 0, missedRun := 0 } : Timebase).Ok k := by
  obtain ⟨_, hacq, _⟩ := SchedHeader.lower_bounds hr
  obtain ⟨_, _, hl, _, _, hh⟩ := h.counters
  refine .of_follower hmode nofun h.ranges ⟨Nat.zero_le _, fun _ => hacq, hl, fun x => ?_, Nat.zero_le _, hh⟩
  cases x

/-- A phase step in FOLLOWER mode keeps the laws: its entry to ACQUIRE leaves RUN and STOPPING (R155, R156). -/
theorem phaseStep_clockOk {tb : Timebase} (h : s.ClockOk) (hc : s.ControlOk) (ht : s.TableOk) (htb : tb.Ok s.active.header)
    (hmode : s.active.header.mode ≠ .master) : (s.phaseStep tb).ClockOk := by
  unfold State.phaseStep
  refine cycleStartWork_clockOk (nextCycle_clockOk true ?_ ?_) (setTb_controlOk _ (changeDiscipline_controlOk _ hc)) ?_
  · exact changeDiscipline_clockOk h hc ht (enterAcquire_ok htb ht.1.2 hmode)
  · exact controlClosed_tableOk.changeDiscipline _ ht
  · exact controlClosed_tableOk.changeDiscipline _ ht

theorem takePulse_clockOk (h : s.ClockOk) (hc : s.ControlOk) (ht : s.TableOk) (hmode : s.active.header.mode = .follower) :
    s.takePulse.ClockOk := by
  have hpulse := pulse_ok h.timebase ht.1.2 (s.tb.phaseError s.active.header.cycleTicks)
  unfold State.takePulse
  split
  · next tb heq =>
    rw [heq] at hpulse
    exact changeDiscipline_clockOk h hc ht hpulse
  · next tb heq =>
    rw [heq] at hpulse
    exact phaseStep_clockOk h hc ht hpulse (by rw [hmode]; decide)

end Control

/-! ## Every step -/

/-- The conditions on a tick leave room for the next one (R142, R145). -/
theorem countTick_ok_of_nextTickDue {s : State} (h : s.tb.Ok s.active.header) (hdue : s.nextTickDue = true) :
    s.tb.countTick.Ok s.active.header := by
  unfold State.nextTickDue State.pulseEndDue State.counting at hdue
  simp only [Bool.and_eq_true, Bool.not_eq_true', decide_eq_true_eq] at hdue
  obtain ⟨⟨⟨⟨⟨hlive, _⟩, hhanded⟩, hroom⟩, _⟩, hend⟩ := hdue
  refine h.countTick hroom fun hout => ?_
  simp only [hlive, hout, hhanded, Bool.and_self, Bool.true_and, decide_eq_false_iff_not] at hend
  have hticks : Config.syncOutTicks = 8 := rfl
  omega

theorem access_tb {s u : State} {l : LaneNo} {a : Nat} (h : s.access l = some (a, u)) : u.tb = s.tb := by
  obtain ⟨_, _, _, _, _, _, _, _, _, _, _, _, rfl⟩ | ⟨r, i, b, d, _, _, _, rfl⟩ := access_cases h
  · rfl
  · unfold State.fetchWord
    dsimp only
    split
    · rfl
    · rfl

theorem takePoints_sameClock (s : State) :
    s.takePoints.tb = s.tb ∧ s.takePoints.active = s.active ∧ s.takePoints.exchange = s.exchange := by simp

theorem effect_clockOk {s u : State} {c : Instr} (he : Effect s c u) (h : s.ClockOk) (hc : s.ControlOk) (ht : s.TableOk) :
    u.ClockOk := by
  cases he with
  | stay => exact h
  | powerOn => exact enterInit_clockOk _
  | powerLoss => exact ⟨h.timebase, h.aligned⟩
  | resetN => exact ⟨.fresh false (resetHeader_inRange s.opt), aligned_of_not_publishing rfl⟩
  | resetNRelease => exact enterInit_clockOk _
  | clearDone hl hx =>
    refine ⟨?_, aligned_of_not_publishing (by simp [State.finishClear, ExState.takesPoints])⟩
    have hfresh := Timebase.Ok.fresh true ht.1.2
    simpa [State.finishClear, State.restartTimebase] using hfresh
  | edit i hlock _ => exact ⟨h.timebase, h.aligned⟩
  | vote n i v hm hcheck => exact takeVote_clockOk h hc ht hm hcheck
  | freeze hx => exact freezeExchange_clockOk h
  | wordAccess l a t _ ha =>
    obtain ⟨_, _, hactive, _, hexchange, _⟩ := access_sameControl ha
    exact clockOk_of_same (by simpa using access_tb ha) (by simpa using hactive) (by simpa using hexchange) h
  | waitingStart n t ht =>
    obtain ⟨_, _, _, _, _, _, rfl⟩ := waitingStart_cases ht
    exact clockOk_of_same (by simp) (by simp) (by simp) h
  | tick hdue =>
    obtain ⟨htb, hactive, hexchange⟩ := takePoints_sameClock (s.setTb s.tb.handTick)
    refine clockOk_of_same (s := s.setTb s.tb.handTick) htb hactive hexchange ⟨h.timebase.handTick fun hhanded => ?_, ?_⟩
    · rcases hdue with hfirst | hnext
      · rw [hfirst] at hhanded
        cases hhanded
      · exact countTick_ok_of_nextTickDue h.timebase hnext
    · intro hx
      have haligned := h.aligned hx
      unfold Timebase.handTick
      split
      · exact haligned
      · exact haligned
  | cycleStart hl => exact cycleStartWork_clockOk (nextCycle_clockOk _ h ht) hc ht
  | switch hp => exact ⟨applySwitch_pending_tbOk h.timebase hc ht hp, applySwitch_aligned h.aligned⟩
  | pulseEnd =>
    obtain ⟨_, htick, _, hspurious⟩ := h.timebase.ranges
    exact ⟨h.timebase.of_same rfl rfl rfl rfl rfl rfl htick (by decide : 0 < 8) hspurious, h.aligned⟩
  | syncPulse hl hm => exact takePulse_clockOk h hc ht hm
  | missedPulse hdue =>
    have hmissed := missed_ok h.timebase ht.1.2
    obtain ⟨_, htick, hage, hspurious⟩ := hmissed.ranges
    exact changeDiscipline_clockOk h hc ht (hmissed.of_same rfl rfl rfl rfl rfl rfl htick hage hspurious)
  | ballotTimer b hb hlt => exact ⟨h.timebase, h.aligned⟩
  | ballotExpiry b => exact closeBallot_clockOk b _ _ _ h
  | _ => exact clockOk_of_same (by simp) (by simp) (by simp) h

/-- Settles O59: with the control laws a switch out of CONFIG changes no timebase field, and with the tables in range a restart or a
cycle start finds room in its cycle. -/
theorem everyStepKeepsTheTimebaseLaws : Obligations.EveryStepKeepsTheTimebaseLaws := by
  unfold Obligations.EveryStepKeepsTheTimebaseLaws
  intro s t hstep htimebase hmode haligned hcontrol htable
  refine (clockOk_iff t).mp (step_keeps (Q := fun s => s.ClockOk ∧ s.ControlOk ∧ s.TableOk) (P := State.ClockOk)
    (fun s rest ⟨h, hc, ht⟩ => ⟨clockOk_of_same (s := s) rfl rfl rfl h, hc, ht⟩) (fun _ ⟨h, _⟩ => h)
    (fun u t hsame hu => clockOk_of_same hsame.tb hsame.active hsame.exchange hu)
    (fun _ _ _ he ⟨h, hc, ht⟩ => effect_clockOk he h hc ht) (fun s hdue ⟨h, _⟩ => ?_) hstep
    ⟨(clockOk_iff s).mpr ⟨htimebase, hmode, haligned⟩, hcontrol, htable⟩)
  exact ⟨countTick_ok_of_nextTickDue h.timebase hdue, h.aligned⟩

end Sys2Proof.Machine

/-! # Lanes, claims and descriptors (R22 to R25, R32, R77, R79, R80) -/

namespace Sys2Proof.Machine

/-! ## The laws by record, by lane and by port -/

/-- A hold speaks of no record but r. -/
def Hold.Only (h : Hold) (r : RecNo) : Prop := ∀ q, h.record = some q → q = r

theorem Hold.only_idle (r : RecNo) : Hold.idle.Only r := nofun

theorem Hold.only_of_record {h : Hold} {r : RecNo} (hr : h.record = some r) : h.Only r := by
  intro q hq
  rw [hr] at hq
  exact (Option.some.inj hq).symm

/-- A hold reads buffer b of record r. -/
def Hold.reads (h : Hold) (r : RecNo) (b : Buf) : Bool :=
  match h with
  | .fetching r' _ b' => r' = r && b' = b
  | _ => false

theorem Hold.reads_of_record {h : Hold} {r : RecNo} {b : Buf} (hr : h.record ≠ some r) : h.reads r b = false := by
  cases h with
  | fetching q i c =>
    have hne : q ≠ r := fun e => hr (by rw [e]; rfl)
    simp [Hold.reads, hne]
  | _ => rfl

/-- The record and the word index of an ACTIVE lane's hold. -/
def Hold.index : Hold → Option (RecNo × Nat)
  | .staging r i | .fetching r i _ => some (r, i)
  | .idle | .waiting _ => none

/-- The claims standing on record r, with definition d and runtime rt, are those of the lanes: its owner's STAGE and the FETCHes. -/
structure State.Claims (s : State) (r : RecNo) (d : RecordDef) (rt : Runtime) : Prop where
  buffers : rt.BuffersOk
  filling : rt.staging = .filling ↔ ∃ i, (s.lane (laneOf d.owner)).hold = .staging r i
  waiting : rt.stageWaiting = true ↔ (s.lane (laneOf d.owner)).hold = .waiting r
  pins : ∀ b : Buf, rt.pins[b] = s.fetchesOf r b
  owner : ∀ l, (s.lane l).hold.record = some r → (s.lane l).hold.isStage = true → l = laneOf d.owner

/-- Every record has its claims, or neither definition nor runtime nor a lane that holds it. -/
def State.ClaimsOk (s : State) : Prop :=
  ∀ r, (∃ d rt, s.activeDef r = some d ∧ s.runtime r = some rt ∧ s.Claims r d rt)
    ∨ (s.activeDef r = none ∧ s.runtime r = none ∧ ∀ l, (s.lane l).hold.record ≠ some r)

/-- The word index of lane l is below the length of its record (R80). -/
def State.IndexOk (s : State) (l : LaneNo) : Prop :=
  ∀ r i d, (s.lane l).hold.index = some (r, i) → s.activeDef r = some d → i < d.length

/-- Held in reset every lane is IDLE (R97). -/
def State.ResetIdle (s : State) : Prop := s.resetLow = true → ∀ l : LaneNo, (s.lane l).hold = .idle

theorem fetchesOf_eq_countP (s : State) (r : RecNo) (b : Buf) :
    s.fetchesOf r b = allLanes.countP fun l => (s.lane l).hold.reads r b := List.countP_eq_length_filter.symm

/-- Where a lane reads the buffer, the count is positive. -/
theorem fetchesOf_pos {s : State} {l : LaneNo} {r : RecNo} {b : Buf} (h : (s.lane l).hold.reads r b = true) :
    0 < s.fetchesOf r b := by
  rw [fetchesOf_eq_countP, List.countP_pos_iff]
  exact ⟨l, mem_allLanes l, h⟩

theorem fetchesOf_eq_zero {s : State} {r : RecNo} {b : Buf} (h : ∀ l, (s.lane l).hold.reads r b = false) :
    s.fetchesOf r b = 0 := by
  rw [fetchesOf_eq_countP, List.countP_eq_zero]
  intro l _
  simp [h l]

theorem fetchesOf_congr {s t : State} {r : RecNo} {b : Buf} (h : ∀ l, (t.lane l).hold.reads r b = (s.lane l).hold.reads r b) :
    t.fetchesOf r b = s.fetchesOf r b := by
  rw [fetchesOf_eq_countP, fetchesOf_eq_countP]
  exact List.countP_congr fun l _ => by rw [h l]

/-- One lane's change moves the count by what that lane reads. -/
theorem fetchesOf_of_one_lane {s t : State} {l : LaneNo} {r : RecNo} {b : Buf}
    (h : ∀ k, k ≠ l → (t.lane k).hold.reads r b = (s.lane k).hold.reads r b) :
    t.fetchesOf r b + ((s.lane l).hold.reads r b).toNat = s.fetchesOf r b + ((t.lane l).hold.reads r b).toNat := by
  have hsplit (u : State) : u.fetchesOf r b
      = ((allLanes.erase l).countP fun k => (u.lane k).hold.reads r b) + ((u.lane l).hold.reads r b).toNat := by
    rw [fetchesOf_eq_countP, (List.perm_cons_erase (mem_allLanes l)).countP_eq, List.countP_cons]
    cases (u.lane l).hold.reads r b <;> rfl
  have hrest : ((allLanes.erase l).countP fun k => (t.lane k).hold.reads r b)
      = (allLanes.erase l).countP fun k => (s.lane k).hold.reads r b := by
    refine List.countP_congr fun k hk => ?_
    have hnodup : allLanes.Nodup := by decide
    rw [h k (hnodup.mem_erase_iff.mp hk).1]
  rw [hsplit t, hsplit s, hrest]
  omega

theorem laneOk_of_claims {s : State} (hc : s.ClaimsOk) {l : LaneNo} (hi : s.IndexOk l) : s.LaneOk l := by
  have hfound {r : RecNo} (hr : (s.lane l).hold.record = some r) :
      ∃ d rt, s.activeDef r = some d ∧ s.runtime r = some rt ∧ s.Claims r d rt := by
    rcases hc r with hsome | ⟨_, _, hnone⟩
    · exact hsome
    · exact absurd hr (hnone l)
  unfold State.LaneOk
  split
  · trivial
  · next r i b hh =>
    obtain ⟨d, rt, hd, _, _⟩ := hfound (by rw [hh]; rfl)
    exact ⟨d, hd, hi r i d (by rw [hh]; rfl) hd⟩
  · next r i hh =>
    obtain ⟨d, rt, hd, hrt, hclaims⟩ := hfound (by rw [hh]; rfl)
    have howner := hclaims.owner l (by rw [hh]; rfl) (by rw [hh]; rfl)
    exact ⟨d, rt, hd, hrt, howner, hclaims.filling.mpr ⟨i, howner ▸ hh⟩, hi r i d (by rw [hh]; rfl) hd⟩
  · next r hh =>
    obtain ⟨d, rt, hd, hrt, hclaims⟩ := hfound (by rw [hh]; rfl)
    have howner := hclaims.owner l (by rw [hh]; rfl) (by rw [hh]; rfl)
    exact ⟨d, rt, hd, hrt, howner, hclaims.waiting.mpr (howner ▸ hh)⟩

/-- A lane that holds a record finds its definition, and a lane in order its index below the length. -/
theorem laneOk_record {s : State} {l : LaneNo} (h : s.LaneOk l) {r : RecNo} (hr : (s.lane l).hold.record = some r) :
    ∃ d, s.activeDef r = some d ∧ ((s.lane l).hold.isStage = true → l = laneOf d.owner)
      ∧ ∀ i, (s.lane l).hold.index = some (r, i) → i < d.length := by
  unfold State.LaneOk at h
  split at h
  · next hh =>
    rw [hh] at hr
    cases hr
  · next q i b hh =>
    obtain ⟨d, hd, hlt⟩ := h
    rw [hh] at hr ⊢
    cases hr
    exact ⟨d, hd, nofun, fun j hj => by cases hj; exact hlt⟩
  · next q i hh =>
    obtain ⟨d, _, hd, _, howner, _, hlt⟩ := h
    rw [hh] at hr ⊢
    cases hr
    exact ⟨d, hd, fun _ => howner, fun j hj => by cases hj; exact hlt⟩
  · next q hh =>
    obtain ⟨d, _, hd, _, howner, _⟩ := h
    rw [hh] at hr ⊢
    cases hr
    exact ⟨d, hd, fun _ => howner, nofun⟩

/-- The law of a record, by cases. -/
theorem runtimeOk_cases {s : State} {r : RecNo} (h : s.RuntimeOk r) :
    (∃ d rt, s.activeDef r = some d ∧ s.runtime r = some rt
        ∧ (rt.staging = .filling → ∃ i, (s.lane (laneOf d.owner)).hold = .staging r i)
        ∧ (rt.stageWaiting = true → (s.lane (laneOf d.owner)).hold = .waiting r) ∧ ∀ b : Buf, rt.pins[b] = s.fetchesOf r b)
      ∨ (s.activeDef r = none ∧ s.runtime r = none) := by
  unfold State.RuntimeOk at h
  split at h
  · next d rt hd hrt => exact .inl ⟨d, rt, hd, hrt, h⟩
  · next hd hrt => exact .inr ⟨hd, hrt⟩
  · exact h.elim

/-- A STAGE that a lane in order holds, in its record's runtime. -/
theorem laneOk_stage {s : State} {l : LaneNo} (h : s.LaneOk l) {r : RecNo} {rt : Runtime} (hrt : s.runtime r = some rt) :
    (∀ i, (s.lane l).hold = .staging r i → rt.staging = .filling) ∧ ((s.lane l).hold = .waiting r → rt.stageWaiting = true) := by
  unfold State.LaneOk at h
  refine ⟨fun i hh => ?_, fun hh => ?_⟩
  · rw [hh] at h
    obtain ⟨_, rt', _, hrt', _, hfilling, _⟩ := h
    rw [hrt] at hrt'
    cases hrt'
    exact hfilling
  · rw [hh] at h
    obtain ⟨_, rt', _, hrt', _, hwaiting⟩ := h
    rw [hrt] at hrt'
    cases hrt'
    exact hwaiting

theorem claimsOk_of_transfersOk {s : State} (h : s.TransfersOk) : s.ClaimsOk := by
  obtain ⟨hlanes, _, hruntimes, hbuffers, _⟩ := h
  intro r
  rcases runtimeOk_cases (hruntimes r) with ⟨d, rt, hd, hrt, hfilling, hwaiting, hpins⟩ | ⟨hd, hrt⟩
  · obtain ⟨hstaging, hstill⟩ := laneOk_stage (hlanes (laneOf d.owner)) hrt
    refine .inl ⟨d, rt, hd, hrt, hbuffers r rt hrt, ⟨hfilling, fun ⟨i, hi⟩ => hstaging i hi⟩, ⟨hwaiting, hstill⟩, hpins,
      fun l hrec hstage => ?_⟩
    obtain ⟨e, he, howner, _⟩ := laneOk_record (hlanes l) hrec
    rw [hd] at he
    cases he
    exact howner hstage
  · refine .inr ⟨hd, hrt, fun l hrec => ?_⟩
    obtain ⟨e, he, _⟩ := laneOk_record (hlanes l) hrec
    rw [hd] at he
    cases he

theorem Hold.record_of_index {h : Hold} {r : RecNo} {i : Nat} (hi : h.index = some (r, i)) : h.record = some r := by
  cases h <;> cases hi <;> rfl

/-- The laws of the transfers, with the word index in order on the lanes that p takes. -/
structure State.LanesOn (s : State) (p : LaneNo → Prop) : Prop where
  claims : s.ClaimsOk
  index : ∀ l, p l → s.IndexOk l
  desc : ∀ n, s.DescOk n
  reset : s.ResetIdle

/-- The laws of the transfers. -/
abbrev State.LanesOk (s : State) : Prop := s.LanesOn fun _ => True

theorem State.LanesOn.but {s : State} (h : s.LanesOk) (l : LaneNo) : s.LanesOn (· ≠ l) :=
  ⟨h.claims, fun k _ => h.index k trivial, h.desc, h.reset⟩

theorem transfersOk_iff (s : State) : s.TransfersOk ↔ s.LanesOk := by
  constructor
  · intro h
    refine ⟨claimsOk_of_transfersOk h, fun l _ r i d hi hd => ?_, h.2.1, h.2.2.2.2⟩
    obtain ⟨e, he, _, hlt⟩ := laneOk_record (h.1 l) (Hold.record_of_index hi)
    rw [hd] at he
    cases he
    exact hlt i hi
  · rintro ⟨hclaims, hindex, hdesc, hreset⟩
    refine ⟨fun l => laneOk_of_claims hclaims (hindex l trivial), hdesc, fun r => ?_, fun r rt hrt => ?_, hreset⟩
    · unfold State.RuntimeOk
      rcases hclaims r with ⟨d, rt, hd, hrt, h⟩ | ⟨hd, hrt, _⟩
      · rw [hd, hrt]
        exact ⟨h.filling.mp, h.waiting.mp, h.pins⟩
      · rw [hd, hrt]
        trivial
    · rcases hclaims r with ⟨d, rt', _, hrt', h⟩ | ⟨_, hrt', _⟩
      · rw [hrt] at hrt'
        cases hrt'
        exact h.buffers
      · rw [hrt] at hrt'
        cases hrt'

/-! ## Claims through a change -/

section Claims

variable {s t : State} {r : RecNo} {d : RecordDef} {rt : Runtime}

/-- What the lanes hold of other records is no matter to a record's claims. -/
theorem State.Claims.of_same_holds (h : s.Claims r d rt)
    (hsame : ∀ k, (t.lane k).hold = (s.lane k).hold ∨ ((s.lane k).hold.record ≠ some r ∧ (t.lane k).hold.record ≠ some r)) :
    t.Claims r d rt := by
  have hhold {k : LaneNo} {x : Hold} (hx : x.record = some r) : (t.lane k).hold = x ↔ (s.lane k).hold = x := by
    rcases hsame k with heq | ⟨hs, ht⟩
    · rw [heq]
    · exact ⟨fun e => absurd (e ▸ hx) ht, fun e => absurd (e ▸ hx) hs⟩
  refine ⟨h.buffers, h.filling.trans (exists_congr fun i => (hhold rfl).symm), h.waiting.trans (hhold rfl).symm, fun b => ?_,
    fun l hrec hstage => ?_⟩
  · rw [h.pins b]
    refine (fetchesOf_congr fun k => ?_).symm
    rcases hsame k with heq | ⟨hs, ht⟩
    · rw [heq]
    · rw [Hold.reads_of_record hs, Hold.reads_of_record ht]
  · rcases hsame l with heq | ⟨_, ht⟩
    · rw [heq] at hrec hstage
      exact h.owner l hrec hstage
    · exact absurd hrec ht

/-- A runtime that changes with no lane changing. -/
theorem State.Claims.of_runtime {rt' : Runtime} (h : s.Claims r d rt) (hb : rt'.BuffersOk)
    (hfill : rt'.staging = .filling ↔ rt.staging = .filling) (hwait : rt'.stageWaiting = rt.stageWaiting)
    (hpins : rt'.pins = rt.pins) : s.Claims r d rt' :=
  ⟨hb, hfill.trans h.filling, by rw [hwait]; exact h.waiting, by rw [hpins]; exact h.pins, h.owner⟩

/-- A step that touches the lanes and the runtime of one record keeps the claims of the others. -/
theorem ClaimsOk_of_local (r : RecNo) (hs : s.ClaimsOk) (ha : t.active = s.active)
    (hruntime : ∀ q, q ≠ r → t.runtime q = s.runtime q)
    (hlane : ∀ k, (t.lane k).hold = (s.lane k).hold ∨ ((s.lane k).hold.Only r ∧ (t.lane k).hold.Only r))
    (hr : ∃ d rt, s.activeDef r = some d ∧ t.runtime r = some rt ∧ t.Claims r d rt) : t.ClaimsOk := by
  have hdef (q : RecNo) : t.activeDef q = s.activeDef q := by simp only [State.activeDef, ha]
  intro q
  rw [hdef]
  by_cases hq : q = r
  · subst hq
    exact .inl hr
  · have hother (k : LaneNo) : (t.lane k).hold = (s.lane k).hold
        ∨ ((s.lane k).hold.record ≠ some q ∧ (t.lane k).hold.record ≠ some q) :=
      (hlane k).imp_right fun ⟨hbefore, hafter⟩ => ⟨fun e => hq (hbefore q e), fun e => hq (hafter q e)⟩
    rw [hruntime q hq]
    rcases hs q with ⟨d, rt, hd, hrt, h⟩ | ⟨hd, hrt, hnone⟩
    · exact .inl ⟨d, rt, hd, hrt, h.of_same_holds hother⟩
    · refine .inr ⟨hd, hrt, fun k => ?_⟩
      rcases hother k with heq | ⟨_, hafter⟩
      · rw [heq]
        exact hnone k
      · exact hafter

/-- Lane l changes its hold from x to y, the other lanes hold what they held. -/
structure State.Turns (s t : State) (l : LaneNo) (x y : Hold) : Prop where
  before : (s.lane l).hold = x
  after : (t.lane l).hold = y
  other : ∀ k, k ≠ l → (t.lane k).hold = (s.lane k).hold

namespace State.Turns

variable {l : LaneNo} {x y : Hold} (h : s.Turns t l x y)
include h

theorem fetchesOf (q : RecNo) (b : Buf) :
    t.fetchesOf q b + (x.reads q b).toNat = s.fetchesOf q b + (y.reads q b).toNat := by
  have hcount := fetchesOf_of_one_lane (s := s) (t := t) (l := l) (r := q) (b := b) fun k hk => by rw [h.other k hk]
  rwa [h.before, h.after] at hcount

theorem local_to (hx : x.Only r) (hy : y.Only r) (k : LaneNo) :
    (t.lane k).hold = (s.lane k).hold ∨ ((s.lane k).hold.Only r ∧ (t.lane k).hold.Only r) := by
  by_cases hk : k = l
  · subst hk
    rw [h.before, h.after]
    exact .inr ⟨hx, hy⟩
  · exact .inl (h.other k hk)

/-- The lanes with a STAGE on r stay the owner's where the new hold is no STAGE of another lane. -/
theorem owner (hc : s.Claims r d rt) (hy : y.isStage = true → l = laneOf d.owner) (k : LaneNo)
    (hrec : (t.lane k).hold.record = some r) (hstage : (t.lane k).hold.isStage = true) : k = laneOf d.owner := by
  by_cases hk : k = l
  · subst hk
    rw [h.after] at hstage
    exact hy hstage
  · rw [h.other k hk] at hrec hstage
    exact hc.owner k hrec hstage

end State.Turns

/-- What the owner's lane holds once STAGE r begins: ACTIVE with word index 0, or WAITING on a BLOCKED record (R84). -/
def Runtime.startHold (rt : Runtime) (r : RecNo) : Hold := if rt.staging = .blocked then .waiting r else .staging r 0

theorem Runtime.startHold_cases (rt : Runtime) (r : RecNo) : rt.startHold r = .waiting r ∨ rt.startHold r = .staging r 0 := by
  unfold Runtime.startHold
  split
  · exact .inl rfl
  · exact .inr rfl

/-- Stage start on the owner's IDLE lane (R23, R24, R26, R84). -/
theorem State.Claims.stageStart {l : LaneNo} (hc : s.Claims r d rt) (howner : l = laneOf d.owner)
    (h : s.Turns t l .idle (rt.startHold r)) : t.Claims r d rt.stageStart := by
  subst howner
  have hnotfilling : rt.staging ≠ .filling := fun e => by
    obtain ⟨i, hi⟩ := hc.filling.mp e
    rw [h.before] at hi
    cases hi
  have hnotwaiting : rt.stageWaiting = false := by
    rw [← Bool.not_eq_true, hc.waiting, h.before]
    nofun
  have hpins (b : Buf) : rt.pins[b] = t.fetchesOf r b := by
    have hcount := h.fetchesOf r b
    have hreads : (rt.startHold r).reads r b = false := by rcases rt.startHold_cases r with h | h <;> rw [h] <;> rfl
    rw [hreads] at hcount
    exact (hc.pins b).trans hcount.symm
  have hafter := h.after
  refine ⟨rt.stageStart_buffersOk hc.buffers, ?_, ?_, ?_, h.owner hc fun _ => rfl⟩
  · rw [hafter]
    cases hst : rt.staging <;> simp [Runtime.stageStart, Runtime.startHold, hst] at hnotfilling ⊢
  · rw [hafter]
    cases hst : rt.staging <;> simp [Runtime.stageStart, Runtime.startHold, hst, hnotwaiting] at hnotfilling ⊢
  · intro b
    have hsame : rt.stageStart.pins = rt.pins := by
      unfold Runtime.stageStart
      split <;> rfl
    rw [hsame]
    exact hpins b

/-- Pin on an IDLE lane (R25, R29). -/
theorem State.Claims.pin {l : LaneNo} (hc : s.Claims r d rt) (h : s.Turns t l .idle (.fetching r 0 rt.pubBuf)) :
    t.Claims r d rt.pin := by
  have hhold {x : Hold} (hidle : x ≠ .idle) (hfetch : x.isFetch = false) :
      (t.lane (laneOf d.owner)).hold = x ↔ (s.lane (laneOf d.owner)).hold = x := by
    by_cases hl : laneOf d.owner = l
    · rw [hl, h.before, h.after]
      refine ⟨fun e => ?_, fun e => absurd e.symm hidle⟩
      rw [← e] at hfetch
      cases hfetch
    · rw [h.other _ hl]
  refine ⟨rt.pin_buffersOk hc.buffers, hc.filling.trans (exists_congr fun i => (hhold (x := .staging r i) nofun rfl).symm),
    hc.waiting.trans (hhold (x := .waiting r) nofun rfl).symm, fun b => ?_, h.owner hc nofun⟩
  have hcount := h.fetchesOf r b
  have hidle : Hold.idle.reads r b = false := rfl
  have hbefore := hc.pins b
  rw [hidle] at hcount
  by_cases hb : rt.pubBuf = b
  · have hreads : (Hold.fetching r 0 rt.pubBuf).reads r b = true := by simp [Hold.reads, hb]
    rw [hreads] at hcount
    have hpin : rt.pin.pins[b] = rt.pins[b] + 1 := by
      subst hb
      simp [Runtime.pin]
    rw [hpin, hbefore]
    exact hcount.symm
  · have hreads : (Hold.fetching r 0 rt.pubBuf).reads r b = false := by simp [Hold.reads, hb]
    rw [hreads] at hcount
    have hpin : rt.pin.pins[b] = rt.pins[b] := Vector.getElem_set_ne rt.pubBuf.isLt b.isLt (Fin.val_ne_of_ne hb)
    rw [hpin, hbefore]
    exact hcount.symm

/-- The word index of an ACTIVE STAGE moves on. -/
theorem State.Claims.advance_staging {l : LaneNo} {i j : Nat} (hc : s.Claims r d rt)
    (h : s.Turns t l (.staging r i) (.staging r j)) : t.Claims r d rt := by
  have howner : l = laneOf d.owner := hc.owner l (by rw [h.before]; rfl) (by rw [h.before]; rfl)
  have hbefore := h.before
  have hafter := h.after
  rw [howner] at hbefore hafter
  refine ⟨hc.buffers, ?_, ?_, fun b => (hc.pins b).trans (h.fetchesOf r b).symm, h.owner hc fun _ => howner⟩
  · rw [hc.filling, hbefore, hafter]
    simp
  · rw [hc.waiting, hbefore, hafter]
    simp

/-- The word index of a FETCH moves on. -/
theorem State.Claims.advance_fetching {l : LaneNo} {q : RecNo} {i j : Nat} {c : Buf} (hc : s.Claims r d rt)
    (h : s.Turns t l (.fetching q i c) (.fetching q j c)) : t.Claims r d rt := by
  have hhold {x : Hold} (hfetch : x.isFetch = false) :
      (t.lane (laneOf d.owner)).hold = x ↔ (s.lane (laneOf d.owner)).hold = x := by
    by_cases hl : laneOf d.owner = l
    · rw [hl, h.before, h.after]
      constructor
      · rintro rfl
        cases hfetch
      · rintro rfl
        cases hfetch
    · rw [h.other _ hl]
  refine ⟨hc.buffers, hc.filling.trans (exists_congr fun i => (hhold rfl).symm), hc.waiting.trans (hhold rfl).symm, fun b => ?_,
    h.owner hc nofun⟩
  have hcount := h.fetchesOf r b
  have hsame : (Hold.fetching q j c).reads r b = (Hold.fetching q i c).reads r b := rfl
  rw [hsame] at hcount
  rw [hc.pins b]
  omega

/-- An ACTIVE STAGE is ended or aborted (R27, R28). -/
theorem State.Claims.release_staging {l : LaneNo} {i : Nat} {rt' : Runtime} (hc : s.Claims r d rt)
    (h : s.Turns t l (.staging r i) .idle) (hb : rt'.BuffersOk) (hfill : rt'.staging ≠ .filling)
    (hwait : rt'.stageWaiting = rt.stageWaiting) (hpins : rt'.pins = rt.pins) : t.Claims r d rt' := by
  have howner : l = laneOf d.owner := hc.owner l (by rw [h.before]; rfl) (by rw [h.before]; rfl)
  have hbefore := h.before
  have hafter := h.after
  rw [howner] at hbefore hafter
  refine ⟨hb, ?_, ?_, fun b => ?_, h.owner hc nofun⟩
  · rw [hafter]
    simp [hfill]
  · rw [hwait, hc.waiting, hbefore, hafter]
    simp
  · rw [hpins]
    exact (hc.pins b).trans (h.fetchesOf r b).symm

/-- A WAITING STAGE is aborted (R28). -/
theorem State.Claims.release_waiting {l : LaneNo} (hc : s.Claims r d rt) (h : s.Turns t l (.waiting r) .idle) :
    t.Claims r d rt.abortWaiting := by
  have howner : l = laneOf d.owner := hc.owner l (by rw [h.before]; rfl) (by rw [h.before]; rfl)
  have hbefore := h.before
  have hafter := h.after
  rw [howner] at hbefore hafter
  have hfill : rt.abortWaiting.staging = rt.staging := rfl
  refine ⟨rt.abortWaiting_buffersOk hc.buffers, ?_, ?_, fun b => (hc.pins b).trans (h.fetchesOf r b).symm, h.owner hc nofun⟩
  · rw [hfill, hc.filling, hbefore, hafter]
    simp
  · rw [hafter]
    simp [Runtime.abortWaiting]

/-- The claims of a record from which lane l's FETCH of buffer b has gone, its pin not yet given back. -/
theorem State.Claims.unpin {u : State} {l : LaneNo} {i : Nat} {b : Buf} (hc : s.Claims r d rt)
    (h : s.Turns u l (.fetching r i b) .idle)
    (hafter : ∀ k, (t.lane k).hold
      = if (rt.unpinFrees b && rt.stageWaiting) = true ∧ k = laneOf d.owner then .staging r 0 else (u.lane k).hold) :
    t.Claims r d (rt.unpin b) := by
  have hheld {x : Hold} (hidle : x ≠ .idle) (hfetch : x.isFetch = false) :
      (u.lane (laneOf d.owner)).hold = x ↔ (s.lane (laneOf d.owner)).hold = x := by
    by_cases hl : laneOf d.owner = l
    · rw [hl, h.before, h.after]
      refine ⟨fun e => absurd e.symm hidle, fun e => ?_⟩
      rw [← e] at hfetch
      cases hfetch
    · rw [h.other _ hl]
  have hstaging (j : Nat) := hheld (x := .staging r j) nofun rfl
  have hwaiting := hheld (x := .waiting r) nofun rfl
  have hstarted (hw : (rt.unpinFrees b && rt.stageWaiting) = true) : (u.lane (laneOf d.owner)).hold = .waiting r :=
    hwaiting.mpr (hc.waiting.mp (Bool.and_eq_true_iff.mp hw).2)
  have hreads (k : LaneNo) (c : Buf) : (t.lane k).hold.reads r c = (u.lane k).hold.reads r c := by
    rw [hafter k]
    split
    · next hk =>
      rw [hk.2, hstarted hk.1]
      rfl
    · rfl
  have hcount (c : Buf) : t.fetchesOf r c + ((Hold.fetching r i b).reads r c).toNat = rt.pins[c] := by
    rw [fetchesOf_congr (fun k => hreads k c), h.fetchesOf r c, hc.pins c]
    rfl
  have hpins (c : Buf) : (rt.pins.set b (rt.pins[b] - 1))[c] = t.fetchesOf r c := by
    have hc' := hcount c
    by_cases hbc : b = c
    · subst hbc
      have hread : (Hold.fetching r i b).reads r b = true := by simp [Hold.reads]
      rw [hread] at hc'
      have hset : (rt.pins.set b (rt.pins[b] - 1))[b] = rt.pins[b] - 1 := by simp
      rw [hset, ← hc']
      rfl
    · have hread : (Hold.fetching r i b).reads r c = false := by simp [Hold.reads, hbc]
      rw [hread] at hc'
      exact (Vector.getElem_set_ne b.isLt c.isLt (Fin.val_ne_of_ne hbc)).trans hc'.symm
  have howner (k : LaneNo) (hrec : (t.lane k).hold.record = some r) (hstage : (t.lane k).hold.isStage = true) :
      k = laneOf d.owner := by
    rw [hafter k] at hrec hstage
    split at hrec
    · next hk => exact hk.2
    · next hk =>
      rw [if_neg hk] at hstage
      exact h.owner hc nofun k hrec hstage
  have hlane := hafter (laneOf d.owner)
  have hbuffers := rt.unpin_buffersOk b hc.buffers
  by_cases hfrees : rt.unpinFrees b = true
  · have heq : rt.unpin b = ({ rt with pins := rt.pins.set b (rt.pins[b] - 1) } : Runtime).leaveBlocked b := by
      simp [Runtime.unpin, hfrees]
    rw [heq] at hbuffers ⊢
    have hblocked : rt.staging = .blocked := by
      simp only [Runtime.unpinFrees, Bool.and_eq_true, decide_eq_true_eq] at hfrees
      exact hfrees.1.1
    have hnotfilling : ∀ i, (u.lane (laneOf d.owner)).hold ≠ .staging r i := fun j hj => by
      have hfilling := hc.filling.mpr ⟨j, (hstaging j).mp hj⟩
      rw [hblocked] at hfilling
      cases hfilling
    by_cases hw : rt.stageWaiting = true
    · rw [hfrees, hw, if_pos ⟨rfl, rfl⟩] at hlane
      refine ⟨hbuffers, ?_, ?_, hpins, howner⟩
      · rw [hlane]
        simp [Runtime.leaveBlocked, hw]
      · rw [hlane]
        simp [Runtime.leaveBlocked]
    · rw [if_neg (by simp [hw])] at hlane
      have hnotwaiting : (u.lane (laneOf d.owner)).hold ≠ .waiting r := fun e => by
        exact hw (hc.waiting.mpr (hwaiting.mp e))
      refine ⟨hbuffers, ?_, ?_, hpins, howner⟩
      · rw [hlane]
        simp [Runtime.leaveBlocked, hw, hnotfilling]
      · rw [hlane]
        simp [Runtime.leaveBlocked, hnotwaiting]
  · have heq : rt.unpin b = { rt with pins := rt.pins.set b (rt.pins[b] - 1) } := by simp [Runtime.unpin, hfrees]
    rw [if_neg (by simp [hfrees])] at hlane
    rw [heq] at hbuffers ⊢
    refine ⟨hbuffers, ?_, ?_, hpins, howner⟩
    · rw [hlane]
      exact hc.filling.trans (exists_congr fun j => (hstaging j).symm)
    · rw [hlane]
      exact hc.waiting.trans hwaiting.symm

end Claims

end Sys2Proof.Machine

/-! # The operations of the Transfer Engine keep the laws of the transfers (R84 to R94) -/

namespace Sys2Proof.Machine

/-! ## Descriptors -/

section Desc

variable {s t : State} {n : Port}

/-- A port whose lane holds no FETCH, and whose descriptor is not IN_PROGRESS. -/
theorem descOk_of_not_fetch (hhold : (t.lane (laneOf n)).hold.isFetch = false)
    (hstate : (t.port n).desc.state ≠ .inProgress) : t.DescOk n := by
  refine ⟨⟨fun e => absurd e hstate, fun e => ?_⟩, fun r i b h => ?_⟩
  · rw [hhold] at e
    cases e
  · rw [h] at hhold
    cases hhold

theorem State.DescOk.not_inProgress (h : s.DescOk n) (hhold : (s.lane (laneOf n)).hold.isFetch = false) :
    (s.port n).desc.state ≠ .inProgress := fun e => by
  have hfetch := h.1.mp e
  rw [hhold] at hfetch
  cases hfetch

/-- A port whose descriptor stays and whose lane holds the same transfer, perhaps at another word. -/
theorem descOk_of_same (h : s.DescOk n) (ha : t.active = s.active) (hdesc : (t.port n).desc = (s.port n).desc)
    (hfetch : (t.lane (laneOf n)).hold.isFetch = (s.lane (laneOf n)).hold.isFetch)
    (hhold : ∀ r i b, (t.lane (laneOf n)).hold = .fetching r i b → ∃ j, (s.lane (laneOf n)).hold = .fetching r j b) :
    t.DescOk n := by
  have hdef (q : RecNo) : t.activeDef q = s.activeDef q := by simp only [State.activeDef, ha]
  refine ⟨by rw [hdesc, hfetch]; exact h.1, fun r i b hh => ?_⟩
  obtain ⟨j, hj⟩ := hhold r i b hh
  rw [hdesc, hdef]
  exact h.2 r j b hj

theorem descOk_of_same_hold (h : s.DescOk n) (ha : t.active = s.active) (hdesc : (t.port n).desc = (s.port n).desc)
    (hhold : (t.lane (laneOf n)).hold = (s.lane (laneOf n)).hold) : t.DescOk n :=
  descOk_of_same h ha hdesc (by rw [hhold]) fun r i b hh => ⟨i, hhold ▸ hh⟩

end Desc

/-! ## One lane turns -/

section Turn

variable {s t u : State}

theorem indexOk_of_same {l : LaneNo} (h : s.IndexOk l) (ha : t.active = s.active) (hhold : (t.lane l).hold = (s.lane l).hold) :
    t.IndexOk l := by
  intro r i d hi hd
  rw [hhold] at hi
  simp only [State.activeDef, ha] at hd
  exact h r i d hi hd

/-- States whose lanes hold the same, with the same runtimes and definitions, have the same claims. -/
theorem State.LanesOn.of_claims {p : LaneNo → Prop} (hs : s.LanesOn p) (hlane : ∀ k, (t.lane k).hold = (s.lane k).hold)
    (ha : t.active = s.active) (hr : t.runtimes = s.runtimes) : t.ClaimsOk := by
  intro r
  have hdef : t.activeDef r = s.activeDef r := by simp only [State.activeDef, ha]
  have hrt : t.runtime r = s.runtime r := by simp only [State.runtime, hr]
  rw [hdef, hrt]
  rcases hs.claims r with ⟨d, rt, hd, hrt, h⟩ | ⟨hd, hrt, hnone⟩
  · exact .inl ⟨d, rt, hd, hrt, h.of_same_holds fun k => .inl (hlane k)⟩
  · exact .inr ⟨hd, hrt, fun k => by rw [hlane k]; exact hnone k⟩

/-- States whose lanes hold the same, with the same runtimes, definitions and descriptors. -/
theorem State.LanesOn.of_same {p : LaneNo → Prop} (hs : s.LanesOn p) (hlane : ∀ k, (t.lane k).hold = (s.lane k).hold)
    (ha : t.active = s.active) (hr : t.runtimes = s.runtimes) (hdesc : ∀ n, (t.port n).desc = (s.port n).desc)
    (hreset : t.resetLow = s.resetLow) : t.LanesOn p := by
  refine ⟨hs.of_claims hlane ha hr, fun l hl => indexOk_of_same (hs.index l hl) ha (hlane l),
    fun n => descOk_of_same_hold (hs.desc n) ha (hdesc n) (hlane _), fun hl k => ?_⟩
  rw [hlane k]
  exact hs.reset (hreset ▸ hl) k

theorem State.LanesOn.of_fields {p : LaneNo → Prop} (hs : s.LanesOn p) (hl : t.lanes = s.lanes)
    (ha : t.active = s.active) (hr : t.runtimes = s.runtimes) (hdesc : ∀ n, (t.port n).desc = (s.port n).desc)
    (hreset : t.resetLow = s.resetLow) : t.LanesOn p :=
  hs.of_same (fun k => by simp only [State.lane, hl]) ha hr hdesc hreset

/-- What a step leaves alone that turns lane l with a claim on record r. -/
structure State.TurnFrame (s t : State) (l : LaneNo) (r : RecNo) : Prop where
  active : t.active = s.active
  reset : t.resetLow = s.resetLow
  runtime : ∀ q, q ≠ r → t.runtime q = s.runtime q
  desc : ∀ n, l ≠ laneOf n → (t.port n).desc = (s.port n).desc

/-- A turn of one lane keeps the laws where the claims of its record keep them and its port's descriptor. -/
theorem State.LanesOn.turn {p : LaneNo → Prop} {l : LaneNo} {x y : Hold} {r : RecNo} (hs : s.LanesOn (· ≠ l))
    (h : s.Turns t l x y) (hf : s.TurnFrame t l r) (hx : x.Only r) (hy : y.Only r)
    (hclaims : ∃ d rt, s.activeDef r = some d ∧ t.runtime r = some rt ∧ t.Claims r d rt)
    (hindex : p l → ∀ q i d, y.index = some (q, i) → s.activeDef q = some d → i < d.length)
    (hown : ∀ n, l = laneOf n → t.DescOk n) (hidle : x = .idle → y = .idle ∨ s.resetLow = false) : t.LanesOn p := by
  refine ⟨ClaimsOk_of_local r hs.claims hf.active hf.runtime (h.local_to hx hy) hclaims, fun k hk => ?_, fun n => ?_,
    fun hl k => ?_⟩
  · by_cases hkl : k = l
    · subst hkl
      intro q i d hi hd
      rw [h.after] at hi
      simp only [State.activeDef, hf.active] at hd
      exact hindex hk q i d hi hd
    · exact indexOk_of_same (hs.index k hkl) hf.active (h.other k hkl)
  · by_cases hl : l = laneOf n
    · exact hown n hl
    · exact descOk_of_same_hold (hs.desc n) hf.active (hf.desc n hl) (h.other _ (Ne.symm hl))
  · have hlow : s.resetLow = true := hf.reset ▸ hl
    by_cases hkl : k = l
    · subst hkl
      rw [h.after]
      rcases hidle (h.before ▸ hs.reset hlow k) with hy' | hhigh
      · exact hy'
      · rw [hlow] at hhigh
        cases hhigh
    · rw [h.other k hkl]
      exact hs.reset hlow k

theorem turns_setLane (s : State) (l : LaneNo) (x : Lane) : s.Turns (s.setLane l x) l (s.lane l).hold x.hold :=
  ⟨rfl, by rw [setLane_lane_same], fun k hk => by rw [setLane_lane_other s hk]⟩

/-- Turns read from the lanes alone. -/
theorem State.Turns.congr {l : LaneNo} {x y : Hold} (h : s.Turns u l x y) (hl : t.lanes = u.lanes) : s.Turns t l x y := by
  have hlane (k : LaneNo) : t.lane k = u.lane k := by simp only [State.lane, hl]
  exact ⟨h.before, by rw [hlane]; exact h.after, fun k hk => by rw [hlane]; exact h.other k hk⟩

theorem State.Turns.congr_left {l : LaneNo} {x y : Hold} (h : u.Turns t l x y) (hl : u.lanes = s.lanes) : s.Turns t l x y := by
  have hlane (k : LaneNo) : u.lane k = s.lane k := by simp only [State.lane, hl]
  exact ⟨by rw [← hlane]; exact h.before, h.after, fun k hk => by rw [← hlane]; exact h.other k hk⟩

theorem State.ClaimsOk.record {r : RecNo} {l : LaneNo} (h : s.ClaimsOk) (hr : (s.lane l).hold.record = some r) :
    ∃ d rt, s.activeDef r = some d ∧ s.runtime r = some rt ∧ s.Claims r d rt := by
  rcases h r with hsome | ⟨_, _, hnone⟩
  · exact hsome
  · exact absurd hr (hnone l)

theorem State.ClaimsOk.defined {r : RecNo} {d : RecordDef} (h : s.ClaimsOk) (hd : s.activeDef r = some d) :
    ∃ rt, s.runtime r = some rt ∧ s.Claims r d rt := by
  rcases h r with ⟨e, rt, he, hrt, hclaims⟩ | ⟨hnone, _⟩
  · rw [hd] at he
    cases he
    exact ⟨rt, hrt, hclaims⟩
  · rw [hd] at hnone
    cases hnone

theorem State.ClaimsOk.of_runtime {r : RecNo} {rt : Runtime} (h : s.ClaimsOk) (hrt : s.runtime r = some rt) :
    ∃ d, s.activeDef r = some d ∧ s.Claims r d rt := by
  rcases h r with ⟨d, rt', hd, hrt', hclaims⟩ | ⟨_, hnone, _⟩
  · rw [hrt] at hrt'
    cases hrt'
    exact ⟨d, hd, hclaims⟩
  · rw [hrt] at hnone
    cases hnone

/-! ## Starts -/

theorem length_pos_of_inRange {d : RecordDef} (h : d.inRange = true) : 0 < d.length := by
  simp only [RecordDef.inRange, Bool.and_eq_true, decide_eq_true_eq] at h
  omega

theorem startStage_eq {n : Port} {r : RecNo} {rt : Runtime} (hrt : s.runtime r = some rt) :
    s.startStage n r = (s.setRuntime r rt.stageStart).setLane (laneOf n) { s.lane (laneOf n) with hold := rt.startHold r } := by
  simp [State.startStage, hrt, Runtime.startHold]

theorem startStage_lanesOk {n : Port} {r : RecNo} {d : RecordDef} (hs : s.LanesOk) (hhigh : s.resetLow = false)
    (hidle : (s.lane (laneOf n)).hold = .idle) (hd : s.activeDef r = some d) (howner : d.owner = n)
    (hlength : 0 < d.length) : (s.startStage n r).LanesOk := by
  subst howner
  obtain ⟨rt, hrt, hclaims⟩ := hs.claims.defined hd
  have hturn : s.Turns (s.startStage d.owner r) (laneOf d.owner) .idle (rt.startHold r) := by
    rw [startStage_eq hrt, ← hidle]
    exact (turns_setLane (s.setRuntime r rt.stageStart) (laneOf d.owner) _).congr_left rfl
  have hframe : s.TurnFrame (s.startStage d.owner r) (laneOf d.owner) r := by
    rw [startStage_eq hrt]
    exact ⟨rfl, rfl, fun q hq => setRuntime_runtime_other s hq _, fun _ _ => rfl⟩
  have hruntime : (s.startStage d.owner r).runtime r = some rt.stageStart := by
    rw [startStage_eq hrt]
    exact setRuntime_runtime_same s r _
  refine (hs.but _).turn hturn hframe (Hold.only_idle r) ?_ ⟨d, _, hd, hruntime, hclaims.stageStart rfl hturn⟩
    (fun _ q i e hi he => ?_) (fun m hm => ?_) fun _ => .inr hhigh
  · rcases rt.startHold_cases r with h | h
    · rw [h]
      exact Hold.only_of_record rfl
    · rw [h]
      exact Hold.only_of_record rfl
  · rcases rt.startHold_cases r with h | h
    · rw [h] at hi
      cases hi
    · rw [h] at hi
      cases hi
      rw [hd] at he
      cases he
      exact hlength
  · rw [laneOf_inj] at hm
    subst hm
    refine descOk_of_not_fetch ?_ ?_
    · rw [hturn.after]
      rcases rt.startHold_cases r with h | h
      · rw [h]
        rfl
      · rw [h]
        rfl
    · have hports : (s.startStage d.owner r).port d.owner = s.port d.owner := by simp [State.port]
      rw [hports]
      exact (hs.desc d.owner).not_inProgress (by rw [hidle]; rfl)

/-- A FETCH begins on an IDLE lane (R88, R90): t differs from the state with the pin and the lane only in what is no transfer's. -/
theorem pin_lanesOk {l : LaneNo} {r : RecNo} {d : RecordDef} {rt : Runtime} (hs : s.LanesOk) (hhigh : s.resetLow = false)
    (hidle : (s.lane l).hold = .idle) (hd : s.activeDef r = some d) (hrt : s.runtime r = some rt) (hlength : 0 < d.length)
    (hlanes : t.lanes = (s.setLane l { s.lane l with hold := .fetching r 0 rt.pubBuf }).lanes)
    (hruntimes : t.runtimes = (s.setRuntime r rt.pin).runtimes) (hactive : t.active = s.active)
    (hreset : t.resetLow = s.resetLow) (hdesc : ∀ n, l ≠ laneOf n → (t.port n).desc = (s.port n).desc)
    (hown : ∀ n, l = laneOf n → (t.port n).desc.state = .inProgress ∧ (t.port n).desc.record = r
      ∧ (t.port n).desc.length = d.length) : t.LanesOk := by
  have hturn : s.Turns t l .idle (.fetching r 0 rt.pubBuf) := by
    rw [← hidle]
    exact (turns_setLane s l _).congr hlanes
  have hruntime (q : RecNo) : t.runtime q = (s.setRuntime r rt.pin).runtime q := by simp only [State.runtime, hruntimes]
  obtain ⟨rt', hrt', hclaims⟩ := hs.claims.defined hd
  rw [hrt] at hrt'
  cases hrt'
  refine (hs.but l).turn hturn ⟨hactive, hreset, fun q hq => ?_, hdesc⟩ (Hold.only_idle r) (Hold.only_of_record rfl)
    ⟨d, _, hd, (hruntime r).trans (setRuntime_runtime_same s r _), hclaims.pin hturn⟩ (fun _ q i e hi he => ?_) (fun n hn => ?_)
    fun _ => .inr hhigh
  · rw [hruntime q, setRuntime_runtime_other s hq]
  · cases hi
    rw [hd] at he
    cases he
    exact hlength
  · obtain ⟨hstate, hrecord, hlen⟩ := hown n hn
    have hafter := hturn.after
    rw [hn] at hafter
    refine ⟨⟨fun _ => by rw [hafter]; rfl, fun _ => hstate⟩, fun q i b hh => ?_⟩
    rw [hafter] at hh
    cases hh
    refine ⟨hrecord, d, ?_, hlen⟩
    simp only [State.activeDef, hactive]
    exact hd

theorem startFetch_lanesOk {n : Port} {r : RecNo} {d : RecordDef} (hs : s.LanesOk) (hhigh : s.resetLow = false)
    (hidle : (s.lane (laneOf n)).hold = .idle) (hd : s.activeDef r = some d) (hlength : 0 < d.length) :
    (s.startFetch n r).LanesOk := by
  obtain ⟨rt, hrt, _⟩ := hs.claims.defined hd
  have heq : s.startFetch n r = ((s.setRuntime r rt.pin).setLane (laneOf n)
      { s.lane (laneOf n) with hold := .fetching r 0 rt.pubBuf }).modPort n fun p =>
        { p with desc := ⟨.inProgress, r, rt.version, rt.health, rt.lastCycle, d.length⟩,
                 readWindow := zeroFrom p.readWindow d.length } := by
    simp [State.startFetch, hrt, hd]
  rw [heq]
  refine pin_lanesOk hs hhigh hidle hd hrt hlength rfl rfl rfl rfl (fun m hm => ?_) fun m hm => ?_
  · rw [modPort_port, if_neg fun e => hm (by rw [e])]
    rfl
  · rw [laneOf_inj] at hm
    rw [modPort_port, if_pos hm.symm]
    exact ⟨rfl, rfl, rfl⟩

theorem startPeek_lanesOk {r : RecNo} {d : RecordDef} (operand : Byte) (hs : s.LanesOk) (hhigh : s.resetLow = false)
    (hidle : (s.lane lm).hold = .idle) (hd : s.activeDef r = some d) (hlength : 0 < d.length) :
    (s.startPeek r operand).LanesOk := by
  obtain ⟨rt, hrt, _⟩ := hs.claims.defined hd
  refine pin_lanesOk hs hhigh hidle hd hrt hlength ?_ ?_ (by simp) (by simp) (fun m _ => by simp [State.port]) fun m hm => ?_
  · simp [State.startPeek, hrt, hd]
  · simp [State.startPeek, hrt, hd]
  · exact absurd hm.symm (laneOf_ne_lm m)

/-! ## Ends and aborts of a STAGE -/

/-- The runtime that a claim leaves to a record. -/
theorem modRuntime_runtime_same {r : RecNo} {rt : Runtime} (f : Runtime → Runtime) (hrt : s.runtime r = some rt) :
    (s.modRuntime r f).runtime r = some (f rt) := by
  rw [modRuntime_runtime, if_pos rfl, hrt]
  rfl

/-- What a stage-end claim leaves (R27). -/
theorem stageEnd_claim (rt : Runtime) :
    rt.stageEnd.staging ≠ .filling ∧ rt.stageEnd.stageWaiting = rt.stageWaiting ∧ rt.stageEnd.pins = rt.pins := by
  unfold Runtime.stageEnd
  split
  · exact ⟨nofun, rfl, rfl⟩
  · next hnot => exact ⟨hnot, rfl, rfl⟩

/-- What a stage-abort claim of an ACTIVE STAGE leaves (R28). -/
theorem abortActive_claim (rt : Runtime) :
    rt.abortActive.staging ≠ .filling ∧ rt.abortActive.stageWaiting = rt.stageWaiting ∧ rt.abortActive.pins = rt.pins := by
  unfold Runtime.abortActive
  split
  · exact ⟨nofun, rfl, rfl⟩
  · next hnot => exact ⟨hnot, rfl, rfl⟩

/-- Lane l, which held an ACTIVE STAGE, is IDLE, and the claim leaves its record not FILLING (R85, R91, R94). -/
theorem endStaging_lanesOk {l : LaneNo} {r : RecNo} {i : Nat} {f : Runtime → Runtime} {x : TransferResult}
    (hs : s.LanesOn (· ≠ l)) (hhold : (s.lane l).hold = .staging r i) (hbuffers : ∀ rt, rt.BuffersOk → (f rt).BuffersOk)
    (hfill : ∀ rt, (f rt).staging ≠ .filling) (hwait : ∀ rt, (f rt).stageWaiting = rt.stageWaiting)
    (hpins : ∀ rt, (f rt).pins = rt.pins) (hlanes : t.lanes = (s.endTransfer l x).lanes)
    (hruntimes : t.runtimes = (s.modRuntime r f).runtimes) (hactive : t.active = s.active) (hreset : t.resetLow = s.resetLow)
    (hdesc : ∀ n, l ≠ laneOf n → (t.port n).desc = (s.port n).desc)
    (hown : ∀ n, l = laneOf n → (t.port n).desc.state ≠ .inProgress) : t.LanesOk := by
  have hturn : s.Turns t l (.staging r i) .idle := by
    rw [← hhold]
    exact (turns_setLane s l _).congr hlanes
  have hruntime (q : RecNo) : t.runtime q = (s.modRuntime r f).runtime q := by simp only [State.runtime, hruntimes]
  obtain ⟨d, rt, hd, hrt, hclaims⟩ := hs.claims.record (l := l) (r := r) (by rw [hhold]; rfl)
  refine hs.turn hturn ⟨hactive, hreset, fun q hq => ?_, hdesc⟩ (Hold.only_of_record rfl) (Hold.only_idle r)
    ⟨d, _, hd, (hruntime r).trans (modRuntime_runtime_same f hrt),
      hclaims.release_staging hturn (hbuffers rt hclaims.buffers) (hfill rt) (hwait rt) (hpins rt)⟩ nofun (fun n hn => ?_)
    fun _ => .inl rfl
  · rw [hruntime q, modRuntime_runtime, if_neg hq]
  · refine descOk_of_not_fetch ?_ (hown n hn)
    rw [← hn, hturn.after]
    rfl

/-- The stage-abort claim of lane l, with the lane IDLE (R28, R91, R94). -/
theorem stageAbort_lanesOk {l : LaneNo} {x : TransferResult} (hs : s.LanesOk) (hhold : (s.lane l).hold.isFetch = false)
    (hlanes : t.lanes = (s.endTransfer l x).lanes) (hruntimes : t.runtimes = (s.stageAbortClaim l).runtimes)
    (hactive : t.active = s.active) (hreset : t.resetLow = s.resetLow)
    (hdesc : ∀ n, l ≠ laneOf n → (t.port n).desc = (s.port n).desc)
    (hown : ∀ n, l = laneOf n → (t.port n).desc.state ≠ .inProgress) : t.LanesOk := by
  cases hh : (s.lane l).hold with
  | idle =>
    have hclaim : s.stageAbortClaim l = s := by simp [State.stageAbortClaim, hh]
    rw [hclaim] at hruntimes
    have hturn : s.Turns t l .idle .idle := by
      have hset := (turns_setLane s l ⟨.idle, x⟩).congr hlanes
      rwa [hh] at hset
    have hlane (k : LaneNo) : (t.lane k).hold = (s.lane k).hold := by
      by_cases hk : k = l
      · subst hk
        rw [hturn.after, hh]
      · exact hturn.other k hk
    refine ⟨(hs.of_claims hlane hactive hruntimes), fun k _ => indexOk_of_same (hs.index k trivial) hactive (hlane k),
      fun n => ?_, fun hlow k => ?_⟩
    · by_cases hn : l = laneOf n
      · refine descOk_of_not_fetch ?_ (hown n hn)
        rw [← hn, hturn.after]
        rfl
      · exact descOk_of_same_hold (hs.desc n) hactive (hdesc n hn) (hlane _)
    · rw [hlane k]
      exact hs.reset (hreset ▸ hlow) k
  | waiting r =>
    have hclaim : s.stageAbortClaim l = s.modRuntime r Runtime.abortWaiting := by simp [State.stageAbortClaim, hh]
    rw [hclaim] at hruntimes
    have hruntime (q : RecNo) : t.runtime q = (s.modRuntime r Runtime.abortWaiting).runtime q := by
      simp only [State.runtime, hruntimes]
    have hturn : s.Turns t l (.waiting r) .idle := by
      rw [← hh]
      exact (turns_setLane s l _).congr hlanes
    obtain ⟨d, rt, hd, hrt, hclaims⟩ := hs.claims.record (l := l) (r := r) (by rw [hh]; rfl)
    refine (hs.but l).turn hturn ⟨hactive, hreset, fun q hq => ?_, hdesc⟩ (Hold.only_of_record rfl) (Hold.only_idle r)
      ⟨d, _, hd, (hruntime r).trans (modRuntime_runtime_same _ hrt), hclaims.release_waiting hturn⟩ nofun (fun n hn => ?_)
      fun _ => .inl rfl
    · rw [hruntime q, modRuntime_runtime, if_neg hq]
    · refine descOk_of_not_fetch ?_ (hown n hn)
      rw [← hn, hturn.after]
      rfl
  | staging r i =>
    have hclaim : s.stageAbortClaim l = s.modRuntime r Runtime.abortActive := by simp [State.stageAbortClaim, hh]
    rw [hclaim] at hruntimes
    exact endStaging_lanesOk (hs.but l) hh Runtime.abortActive_buffersOk (fun rt => (abortActive_claim rt).1)
      (fun rt => (abortActive_claim rt).2.1) (fun rt => (abortActive_claim rt).2.2) hlanes hruntimes hactive hreset hdesc hown
  | fetching r i b =>
    rw [hh] at hhold
    cases hhold

/-! ## Ends and aborts of a FETCH -/

/-- The lanes after an unpin claim: the owner's WAITING STAGE starts where the claim frees a BLOCKED record (R30, R34, R86). -/
theorem unpinClaim_hold {r : RecNo} {d : RecordDef} {rt : Runtime} (b : Buf) (hd : u.activeDef r = some d)
    (hrt : u.runtime r = some rt) (hwait : rt.stageWaiting = true → (u.lane (laneOf d.owner)).hold = .waiting r) (k : LaneNo) :
    ((u.unpinClaim r b).lane k).hold
      = if (rt.unpinFrees b && rt.stageWaiting) = true ∧ k = laneOf d.owner then .staging r 0 else (u.lane k).hold := by
  unfold State.unpinClaim
  simp only [hd, hrt]
  split
  · next hfrees =>
    have hheld : ((u.setRuntime r (rt.unpin b)).lane (laneOf d.owner)).hold = .waiting r :=
      hwait (Bool.and_eq_true_iff.mp hfrees).2
    unfold State.startWaiting
    rw [if_pos hheld, setLane_lane]
    by_cases hk : k = laneOf d.owner
    · rw [if_pos hk, if_pos ⟨hfrees, hk⟩]
    · rw [if_neg hk, if_neg fun h => hk h.2]
      rfl
  · next hkeeps =>
    rw [if_neg fun h => hkeeps h.1]
    rfl

/-- Lane l, which held a FETCH, is IDLE, and its unpin claim is handed (R89, R90, R94): u stands between, t differs from the state
after the claim only in what is no transfer's. -/
theorem unpin_lanesOk {l : LaneNo} {r : RecNo} {i : Nat} {b : Buf} (hs : s.LanesOn (· ≠ l))
    (hlength : ∀ d, s.activeDef r = some d → 0 < d.length) (h : s.Turns u l (.fetching r i b) .idle)
    (hu : u.active = s.active ∧ u.runtimes = s.runtimes) (hlanes : t.lanes = (u.unpinClaim r b).lanes)
    (hruntimes : t.runtimes = (u.unpinClaim r b).runtimes) (hactive : t.active = s.active) (hreset : t.resetLow = s.resetLow)
    (hdesc : ∀ n, l ≠ laneOf n → (t.port n).desc = (s.port n).desc)
    (hown : ∀ n, l = laneOf n → (t.port n).desc.state ≠ .inProgress) : t.LanesOk := by
  obtain ⟨d, rt, hd, hrt, hclaims⟩ := hs.claims.record (l := l) (r := r) (by rw [h.before]; rfl)
  have hdu : u.activeDef r = some d := by simpa only [State.activeDef, hu.1] using hd
  have hrtu (q : RecNo) : u.runtime q = s.runtime q := by simp only [State.runtime, hu.2]
  have hwait (hw : rt.stageWaiting = true) : (u.lane (laneOf d.owner)).hold = .waiting r := by
    have hheld := hclaims.waiting.mp hw
    rw [h.other]
    · exact hheld
    · intro hl
      rw [hl, h.before] at hheld
      cases hheld
  have hlane (k : LaneNo) : (t.lane k).hold
      = if (rt.unpinFrees b && rt.stageWaiting) = true ∧ k = laneOf d.owner then .staging r 0 else (u.lane k).hold := by
    have hsame : t.lane k = (u.unpinClaim r b).lane k := by simp only [State.lane, hlanes]
    rw [hsame, unpinClaim_hold b hdu ((hrtu r).trans hrt) hwait]
  have hruntime (q : RecNo) : t.runtime q = if q = r then some (rt.unpin b) else s.runtime q := by
    have hsame : t.runtime q = (u.unpinClaim r b).runtime q := by simp only [State.runtime, hruntimes]
    rw [hsame, unpinClaim_runtime, hrtu, hrtu, hrt]
    rfl
  have hcases (k : LaneNo) : (k = l ∧ (t.lane k).hold = .idle) ∨ ((s.lane k).hold = .waiting r ∧ (t.lane k).hold = .staging r 0)
      ∨ (k ≠ l ∧ (t.lane k).hold = (s.lane k).hold) := by
    rw [hlane k]
    split
    · next hk =>
      have hheld := hwait (Bool.and_eq_true_iff.mp hk.1).2
      rw [← hk.2] at hheld
      refine .inr (.inl ⟨?_, rfl⟩)
      rw [← h.other k, hheld]
      rintro rfl
      rw [h.after] at hheld
      cases hheld
    · by_cases hk : k = l
      · subst hk
        exact .inl ⟨rfl, h.after⟩
      · exact .inr (.inr ⟨hk, h.other k hk⟩)
  have hbefore := h.before
  refine ⟨ClaimsOk_of_local r hs.claims hactive (fun q hq => ?_) (fun k => ?_) ⟨d, _, hd, ?_, hclaims.unpin h hlane⟩, fun k _ => ?_,
    fun n => ?_, fun hlow k => ?_⟩
  · rw [hruntime q, if_neg hq]
  · rcases hcases k with ⟨rfl, hk⟩ | ⟨hk, hk'⟩ | ⟨_, hk⟩
    · rw [hk, hbefore]
      exact .inr ⟨Hold.only_of_record rfl, Hold.only_idle r⟩
    · rw [hk, hk']
      exact .inr ⟨Hold.only_of_record rfl, Hold.only_of_record rfl⟩
    · exact .inl hk
  · rw [hruntime r, if_pos rfl]
  · rcases hcases k with ⟨rfl, hk⟩ | ⟨_, hk⟩ | ⟨hne, hk⟩
    · intro q j e hi
      rw [hk] at hi
      cases hi
    · intro q j e hi he
      rw [hk] at hi
      cases hi
      simp only [State.activeDef, hactive] at he
      exact hlength e he
    · exact indexOk_of_same (hs.index k hne) hactive hk
  · by_cases hn : l = laneOf n
    · subst hn
      rcases hcases (laneOf n) with ⟨_, hk⟩ | ⟨hk, _⟩ | ⟨hne, _⟩
      · exact descOk_of_not_fetch (by rw [hk]; rfl) (hown n rfl)
      · rw [hbefore] at hk
        cases hk
      · exact absurd rfl hne
    · rcases hcases (laneOf n) with ⟨hl, _⟩ | ⟨hk, hk'⟩ | ⟨_, hk⟩
      · exact absurd hl.symm hn
      · refine descOk_of_not_fetch (by rw [hk']; rfl) ?_
        rw [hdesc n hn]
        exact (hs.desc n).not_inProgress (by rw [hk]; rfl)
      · exact descOk_of_same_hold (hs.desc n) hactive (hdesc n hn) hk
  · have hidle := hs.reset (hreset ▸ hlow) l
    rw [hbefore] at hidle
    cases hidle

end Turn

end Sys2Proof.Machine

/-! # Every step keeps the laws of the transfers -/

namespace Sys2Proof.Machine

section Ends

variable {s : State}

/-- The descriptors after a change that only port n's takes part in. -/
theorem modPort_desc_other {u : State} {n m : Port} {f : PortState → PortState} (hne : laneOf n ≠ laneOf m) :
    ((u.modPort n f).port m).desc = (u.port m).desc := by
  rw [modPort_port, if_neg fun e => hne (by rw [e])]

/-- The record of a lane that holds one has a positive length. -/
theorem activeDef_length_pos (ht : s.TableOk) {r : RecNo} (d : RecordDef) (hd : s.activeDef r = some d) : 0 < d.length :=
  length_pos_of_inRange (ht.1.1 r d hd)

/-- The transfer of a port lane ends (R85, R89). -/
theorem completeLane_lanesOk {n : Port} (hs : s.LanesOn (· ≠ laneOf n)) (ht : s.TableOk)
    (hrecord : (s.lane (laneOf n)).hold.index ≠ none) : (s.completeLane n).LanesOk := by
  cases hh : (s.lane (laneOf n)).hold with
  | idle =>
    rw [hh] at hrecord
    exact absurd rfl hrecord
  | waiting r =>
    rw [hh] at hrecord
    exact absurd rfl hrecord
  | staging r i =>
    have heq : s.completeLane n = ((s.endTransfer (laneOf n) .ok).setXfer n).modRuntime r Runtime.stageEnd := by
      simp [State.completeLane, hh]
    have hports : (s.completeLane n).ports = ((s.endTransfer (laneOf n) .ok).setXfer n).ports := by rw [heq]; simp
    have hport (m : Port) : (s.completeLane n).port m = ((s.endTransfer (laneOf n) .ok).setXfer n).port m := by
      simp only [State.port, hports]
    refine endStaging_lanesOk (f := Runtime.stageEnd) (x := .ok) hs hh Runtime.stageEnd_buffersOk
      (fun rt => (stageEnd_claim rt).1) (fun rt => (stageEnd_claim rt).2.1) (fun rt => (stageEnd_claim rt).2.2) ?_ ?_
      (by simp) (by simp) (fun m hm => ?_) fun m hm => ?_
    · rw [heq]
      simp
    · rw [heq]
      unfold State.modRuntime
      have hrt : ((s.endTransfer (laneOf n) .ok).setXfer n).runtime r = s.runtime r := rfl
      rw [hrt]
      split
      · rfl
      · rfl
    · rw [hport]
      exact modPort_desc_other hm
    · rw [laneOf_inj] at hm
      subst hm
      rw [hport, setXfer_port, if_pos rfl]
      exact (hs.desc n).not_inProgress (by rw [hh]; rfl)
  | fetching r i b =>
    have heq : s.completeLane n
        = (((s.endTransfer (laneOf n) .ok).setXfer n).setDescState n .valid).unpinClaim r b := by
      simp [State.completeLane, hh]
    have hports : (s.completeLane n).ports = (((s.endTransfer (laneOf n) .ok).setXfer n).setDescState n .valid).ports := by
      rw [heq]; simp
    have hport (m : Port) : (s.completeLane n).port m
        = (((s.endTransfer (laneOf n) .ok).setXfer n).setDescState n .valid).port m := by
      simp only [State.port, hports]
    have hturn : s.Turns (((s.endTransfer (laneOf n) .ok).setXfer n).setDescState n .valid) (laneOf n) (.fetching r i b) .idle := by
      have hset := (turns_setLane s (laneOf n) ⟨.idle, .ok⟩).congr
        (t := ((s.endTransfer (laneOf n) .ok).setXfer n).setDescState n .valid) rfl
      rwa [hh] at hset
    refine unpin_lanesOk hs (fun d => activeDef_length_pos ht d) hturn ⟨rfl, rfl⟩ (by rw [heq]) (by rw [heq]) (by simp) (by simp)
      (fun m hm => ?_) fun m hm => ?_
    · rw [hport]
      exact (modPort_desc_other hm).trans (modPort_desc_other hm)
    · rw [laneOf_inj] at hm
      subst hm
      rw [hport, setDescState_port, if_pos rfl]
      nofun

/-- LM's fetch ends (R90). -/
theorem completeLm_lanesOk (hs : s.LanesOn (· ≠ lm)) (ht : s.TableOk) (hfetch : (s.lane lm).hold.isFetch = true) :
    s.completeLm.LanesOk := by
  cases hh : (s.lane lm).hold with
  | fetching r i b =>
    have heq : s.completeLm = ((s.endTransfer lm .ok).reportPeek .completed).unpinClaim r b := by
      simp [State.completeLm, hh]
    have hturn : s.Turns ((s.endTransfer lm .ok).reportPeek .completed) lm (.fetching r i b) .idle := by
      have hset := (turns_setLane s lm ⟨.idle, .ok⟩).congr (t := (s.endTransfer lm .ok).reportPeek .completed) rfl
      rwa [hh] at hset
    exact unpin_lanesOk hs (fun d => activeDef_length_pos ht d) hturn ⟨rfl, rfl⟩ (by rw [heq]) (by rw [heq]) (by simp) (by simp)
      (fun m _ => by simp [State.port]) fun m hm => absurd hm.symm (laneOf_ne_lm m)
  | _ =>
    rw [hh] at hfetch
    cases hfetch

/-- An access that has moved the last word ends its transfer, any other leaves the index below the length. -/
theorem endIfDone_lanesOk {l : LaneNo} {r : RecNo} {i : Nat} (hs : s.LanesOn (· ≠ l)) (ht : s.TableOk)
    (hindex : (s.lane l).hold.index = some (r, i)) (hlm : l = lm → (s.lane l).hold.isFetch = true) :
    (s.endIfDone l).LanesOk := by
  by_cases hdone : s.transferDone l = true
  · cases hport : portOf l with
    | some n =>
      obtain rfl := portOf_eq_some.mp hport
      rw [endIfDone_port s n hdone]
      exact completeLane_lanesOk hs ht (by rw [hindex]; nofun)
    | none =>
      obtain rfl := portOf_eq_none.mp hport
      rw [endIfDone_lm s hdone]
      exact completeLm_lanesOk hs ht (hlm rfl)
  · have hnot : s.transferDone l = false := by simpa using hdone
    rw [endIfDone_of_not s l hnot]
    refine ⟨hs.claims, fun k _ => ?_, hs.desc, hs.reset⟩
    by_cases hk : k = l
    · subst hk
      intro q j d hi hd
      rw [hindex] at hi
      cases hi
      unfold State.transferDone at hnot
      cases hh : (s.lane k).hold with
      | idle =>
        rw [hh] at hindex
        cases hindex
      | waiting q =>
        rw [hh] at hindex
        cases hindex
      | staging q j =>
        rw [hh] at hindex hnot
        cases hindex
        simpa [hd] using hnot
      | fetching q j b =>
        rw [hh] at hindex hnot
        cases hindex
        simpa [hd] using hnot
    · exact hs.index k hk

theorem stageWord_lanesOn {n : Port} {r : RecNo} {i a : Nat} (hs : s.LanesOk)
    (hhold : (s.lane (laneOf n)).hold = .staging r i) : (s.stageWord (laneOf n) n r i a).LanesOn (· ≠ laneOf n) := by
  have hturn : s.Turns (s.stageWord (laneOf n) n r i a) (laneOf n) (.staging r i) (.staging r (i + 1)) := by
    rw [← hhold]
    exact (turns_setLane s (laneOf n) { s.lane (laneOf n) with hold := .staging r (i + 1) }).congr rfl
  obtain ⟨d, rt, hd, hrt, hclaims⟩ := hs.claims.record (l := laneOf n) (r := r) (by rw [hhold]; rfl)
  refine (hs.but _).turn hturn ⟨rfl, rfl, fun _ _ => rfl, fun _ _ => rfl⟩ (Hold.only_of_record rfl) (Hold.only_of_record rfl)
    ⟨d, rt, hd, hrt, hclaims.advance_staging hturn⟩ (fun h => absurd rfl h) (fun m hm => ?_) nofun
  rw [laneOf_inj] at hm
  subst hm
  exact descOk_of_not_fetch (by rw [hturn.after]; rfl) ((hs.desc n).not_inProgress (by rw [hhold]; rfl))

theorem fetchWord_frame (l : LaneNo) (r : RecNo) (i : Nat) (b : Buf) (a : Nat) :
    (s.fetchWord l r i b a).lanes = (s.setLane l { s.lane l with hold := .fetching r (i + 1) b }).lanes
      ∧ (s.fetchWord l r i b a).active = s.active ∧ (s.fetchWord l r i b a).shadow = s.shadow
      ∧ (s.fetchWord l r i b a).runtimes = s.runtimes ∧ (s.fetchWord l r i b a).resetLow = s.resetLow
      ∧ ∀ n, ((s.fetchWord l r i b a).port n).desc = (s.port n).desc := by
  unfold State.fetchWord
  dsimp only
  split
  · next m _ =>
    refine ⟨rfl, rfl, rfl, rfl, rfl, fun n => ?_⟩
    rw [modPort_port]
    split
    · next hn =>
      rw [hn]
      rfl
    · rfl
  · exact ⟨rfl, rfl, rfl, rfl, rfl, fun _ => rfl⟩

theorem fetchWord_lanesOn {l : LaneNo} {r : RecNo} {i a : Nat} {b : Buf} (hs : s.LanesOk)
    (hhold : (s.lane l).hold = .fetching r i b) : (s.fetchWord l r i b a).LanesOn (· ≠ l) := by
  obtain ⟨hlanes, hactive, _, hruntimes, hreset, hdesc⟩ := fetchWord_frame (s := s) l r i b a
  have hturn : s.Turns (s.fetchWord l r i b a) l (.fetching r i b) (.fetching r (i + 1) b) := by
    rw [← hhold]
    exact (turns_setLane s l _).congr hlanes
  have hruntime (q : RecNo) : (s.fetchWord l r i b a).runtime q = s.runtime q := by simp only [State.runtime, hruntimes]
  obtain ⟨d, rt, hd, hrt, hclaims⟩ := hs.claims.record (l := l) (r := r) (by rw [hhold]; rfl)
  refine (hs.but _).turn hturn ⟨hactive, hreset, fun q _ => hruntime q, fun n _ => hdesc n⟩ (Hold.only_of_record rfl)
    (Hold.only_of_record rfl) ⟨d, rt, hd, (hruntime r).trans hrt, hclaims.advance_fetching hturn⟩ (fun h => absurd rfl h)
    (fun m hm => ?_) nofun
  subst hm
  refine descOk_of_same (hs.desc m) hactive (hdesc m) ?_ fun q j c hh => ?_
  · rw [hturn.before, hturn.after]
    rfl
  · rw [hturn.after] at hh
    cases hh
    exact ⟨i, hhold⟩

/-- A word access, with the end that its last word makes (R82, R85, R89, R90). -/
theorem wordAccess_lanesOk {u : State} {l : LaneNo} {a : Nat} (hs : s.LanesOk) (ht : s.TableOk)
    (ha : s.access l = some (a, u)) : ((u.setArbiter l).endIfDone l).LanesOk := by
  rcases access_cases ha with ⟨n, r, i, d, rt, b, rfl, hhold, _, _, _, rfl, rfl⟩ | ⟨r, i, b, d, hhold, _, rfl, rfl⟩
  · have hword := stageWord_lanesOn (a := d.address b i) hs hhold
    refine endIfDone_lanesOk (r := r) (i := i + 1) (hword.of_fields rfl rfl rfl (fun _ => rfl) rfl) ht ?_
      fun h => absurd h (laneOf_ne_lm n)
    simp [State.stageWord, State.setArbiter, State.lane, Hold.index]
  · have hword := fetchWord_lanesOn (a := d.address b i) hs hhold
    obtain ⟨hlanes, hactive, hshadow, _, _, _⟩ := fetchWord_frame (s := s) l r i b (d.address b i)
    have hafter : (((s.fetchWord l r i b (d.address b i)).setArbiter l).lane l).hold = .fetching r (i + 1) b :=
      ((turns_setLane s l _).congr hlanes).after
    refine endIfDone_lanesOk (r := r) (i := i + 1) (hword.of_fields rfl rfl rfl (fun _ => rfl) rfl) ?_ ?_ fun _ => ?_
    · unfold State.TableOk
      rw [show ((s.fetchWord l r i b (d.address b i)).setArbiter l).active = s.active from hactive,
        show ((s.fetchWord l r i b (d.address b i)).setArbiter l).shadow = s.shadow from hshadow]
      exact ht
    · rw [hafter]
      rfl
    · rw [hafter]
      rfl

/-! ## FREEZE and PORT RESET (R91, R94) -/

theorem Hold.not_isFetch_of_isStage {h : Hold} (hstage : h.isStage = true) : h.isFetch = false := by
  cases h with
  | fetching r i b => nomatch hstage
  | idle | waiting r | staging r i => rfl

theorem freezeAborts_lanesOk (hs : s.LanesOk) : s.freezeAborts.LanesOk := by
  refine foldl_preserves _ (fun t => t.LanesOk) (fun u n hu => ?_) allPorts s hs
  split
  · next hstage =>
    have hnot : (u.lane (laneOf n)).hold.isFetch = false := Hold.not_isFetch_of_isStage hstage
    have hports : ((u.stageAbortClaim (laneOf n)).endTransfer (laneOf n) .abortedFreeze).ports = u.ports := by simp
    refine stageAbort_lanesOk (x := .abortedFreeze) hu hnot (by simp [State.endTransfer]) (by simp) (by simp) (by simp)
      (fun m hm => ?_) fun m hm => ?_
    · rw [setXfer_port, if_neg fun e => hm (by rw [e])]
      simp only [State.port, hports]
    · rw [laneOf_inj] at hm
      subst hm
      rw [setXfer_port, if_pos rfl]
      have hstate := (hu.desc n).not_inProgress hnot
      simpa only [State.port, hports] using hstate
  · exact hu

theorem resetPort_lanesOk (n : Port) (hs : s.LanesOk) (ht : s.TableOk) : (s.resetPort n).LanesOk := by
  have hdesc (m : Port) (hm : laneOf n ≠ laneOf m) : ((s.resetPort n).port m).desc = (s.port m).desc := by
    rw [resetPort_port, if_neg fun e => hm (by rw [e])]
  have hown (m : Port) (hm : laneOf n = laneOf m) : ((s.resetPort n).port m).desc.state ≠ .inProgress := by
    rw [laneOf_inj] at hm
    rw [resetPort_port, if_pos hm.symm]
    nofun
  have hframe : (s.resetPort n).lanes = (s.portResetAbort n).lanes ∧ (s.resetPort n).runtimes = (s.portResetAbort n).runtimes
      ∧ (s.resetPort n).active = s.active ∧ (s.resetPort n).resetLow = s.resetLow := by
    simp [State.resetPort]
  obtain ⟨hlanes, hruntimes, hactive, hreset⟩ := hframe
  cases hh : (s.lane (laneOf n)).hold with
  | fetching r i b =>
    have heq : s.portResetAbort n = (s.endTransfer (laneOf n) .none).unpinClaim r b := by simp [State.portResetAbort, hh]
    have hturn : s.Turns (s.endTransfer (laneOf n) .none) (laneOf n) (.fetching r i b) .idle := by
      have hset := turns_setLane s (laneOf n) ⟨.idle, .none⟩
      rwa [hh] at hset
    rw [heq] at hlanes hruntimes
    exact unpin_lanesOk (hs.but _) (fun d => activeDef_length_pos ht d) hturn ⟨rfl, rfl⟩ hlanes hruntimes hactive hreset hdesc
      hown
  | _ =>
    have heq : s.portResetAbort n = (s.stageAbortClaim (laneOf n)).endTransfer (laneOf n) .none := by
      simp [State.portResetAbort, hh]
    rw [heq] at hlanes hruntimes
    exact stageAbort_lanesOk hs (by rw [hh]; rfl) (x := .none) (by rw [hlanes]; simp [State.endTransfer])
      (by rw [hruntimes]; simp) hactive hreset hdesc hown

end Ends

end Sys2Proof.Machine

/-! # Switches, CLEAR and points in the laws of the transfers; every step -/

namespace Sys2Proof.Machine

section Switch

variable {s t : State}

theorem State.Claims.of_owner {r : RecNo} {d e : RecordDef} {rt : Runtime} (h : s.Claims r d rt) (howner : e.owner = d.owner) :
    s.Claims r e rt := by
  refine ⟨h.buffers, ?_, ?_, h.pins, ?_⟩
  · rw [howner]
    exact h.filling
  · rw [howner]
    exact h.waiting
  · rw [howner]
    exact h.owner

/-- A record that no lane holds has the claims of its initial runtime. -/
theorem claims_initial {r : RecNo} (d : RecordDef) (hnone : ∀ l, (s.lane l).hold.record ≠ some r) :
    s.Claims r d Runtime.initial := by
  refine ⟨Runtime.initial_buffersOk, ⟨nofun, fun ⟨i, hi⟩ => ?_⟩, ⟨nofun, fun hi => ?_⟩, fun b => ?_,
    fun l hrec _ => absurd hrec (hnone l)⟩
  · exact absurd (by rw [hi]; rfl) (hnone (laneOf d.owner))
  · exact absurd (by rw [hi]; rfl) (hnone (laneOf d.owner))
  · rw [fetchesOf_eq_zero fun l => Hold.reads_of_record (hnone l)]
    revert b
    decide

/-- The class of a record and the definitions it comes from (R130). -/
theorem recClass_cases (s : State) (r : RecNo) :
    (∃ d e, s.activeDef r = some d ∧ s.shadowDef r = some e ∧ s.recClass r = .kept ∧ e.owner = d.owner ∧ e.length = d.length)
      ∨ (∃ e, s.shadowDef r = some e ∧ s.recClass r = .reset) ∨ (s.shadowDef r = none ∧ s.recClass r = .dropped)
      ∨ (s.activeDef r = none ∧ s.shadowDef r = none ∧ s.recClass r = .absent) := by
  unfold State.recClass
  cases hd : s.activeDef r with
  | none =>
    cases he : s.shadowDef r with
    | none => exact .inr (.inr (.inr ⟨rfl, rfl, rfl⟩))
    | some e => exact .inr (.inl ⟨e, rfl, rfl⟩)
  | some d =>
    cases he : s.shadowDef r with
    | none => exact .inr (.inr (.inl ⟨rfl, rfl⟩))
    | some e =>
      unfold classify
      dsimp only
      split
      · next hsame =>
        simp only [Bool.and_eq_true, decide_eq_true_eq] at hsame
        obtain ⟨⟨howner, hlength⟩, _⟩ := hsame
        exact .inl ⟨d, e, rfl, rfl, rfl, howner.symm, hlength.symm⟩
      · exact .inr (.inl ⟨e, rfl, rfl⟩)

/-- A defined record that a switch does not abort is kept. -/
theorem recClass_kept {r : RecNo} (h : s.switchAborts r = false) {d : RecordDef} (hd : s.activeDef r = some d) :
    ∃ e, s.shadowDef r = some e ∧ s.recClass r = .kept ∧ e.owner = d.owner ∧ e.length = d.length := by
  rcases recClass_cases s r with ⟨d', e, hd', hkept⟩ | ⟨_, _, hclass⟩ | ⟨_, hclass⟩ | ⟨hnone, _⟩
  · rw [hd] at hd'
    cases hd'
    exact ⟨e, hkept⟩
  · simp [State.switchAborts, hclass] at h
  · simp [State.switchAborts, hclass] at h
  · rw [hd] at hnone
    cases hnone

/-- A lane after a switch: IDLE where it held a record that the switch resets or drops, else as it was. -/
theorem applySwitch_hold_cases (s : State) (l : LaneNo) :
    (∃ r, (s.lane l).hold.record = some r ∧ s.switchAborts r = true ∧ (s.applySwitch.lane l).hold = .idle)
      ∨ ((s.applySwitch.lane l).hold = (s.lane l).hold ∧ ∀ r, (s.lane l).hold.record = some r → s.switchAborts r = false) := by
  rw [applySwitch_lane]
  split
  · next haborts =>
    obtain ⟨r, hr, hon⟩ := (Option.any_eq_true _ _).mp haborts
    exact .inl ⟨r, hr, hon, rfl⟩
  · next hkeeps =>
    refine .inr ⟨rfl, fun r hr => ?_⟩
    rw [hr] at hkeeps
    simpa using hkeeps

theorem applySwitch_activeDef (s : State) (r : RecNo) : s.applySwitch.activeDef r = s.shadowDef r := by
  simp only [State.activeDef, State.shadowDef, applySwitch_active]

/-- No lane holds a record that the switch resets or drops. -/
theorem applySwitch_not_held {r : RecNo} (h : s.switchAborts r = true) (l : LaneNo) :
    (s.applySwitch.lane l).hold.record ≠ some r := by
  rcases applySwitch_hold_cases s l with ⟨_, _, _, hidle⟩ | ⟨hsame, hkeeps⟩
  · rw [hidle]
    nofun
  · rw [hsame]
    intro hr
    rw [hkeeps r hr] at h
    cases h

theorem applySwitch_claimsOk (hs : s.LanesOk) : s.applySwitch.ClaimsOk := by
  intro r
  rw [applySwitch_activeDef, applySwitch_runtime]
  rcases recClass_cases s r with ⟨d, e, hd, he, hclass, howner, _⟩ | ⟨e, he, hclass⟩ | ⟨he, hclass⟩ | ⟨hd, he, hclass⟩
  · have hsame (l : LaneNo) : (s.applySwitch.lane l).hold = (s.lane l).hold
        ∨ ((s.lane l).hold.record ≠ some r ∧ (s.applySwitch.lane l).hold.record ≠ some r) := by
      rcases applySwitch_hold_cases s l with ⟨q, hq, hon, hidle⟩ | ⟨hsame, _⟩
      · refine .inr ⟨?_, by rw [hidle]; nofun⟩
        rw [hq]
        rintro ⟨⟩
        simp [State.switchAborts, hclass] at hon
      · exact .inl hsame
    obtain ⟨rt, hrt, h⟩ := hs.claims.defined hd
    refine .inl ⟨e, { rt with missCount := 0 }, he, by rw [hclass, hrt]; rfl, ?_⟩
    have hkept : s.applySwitch.Claims r d { rt with missCount := 0 } :=
      (h.of_same_holds hsame).of_runtime h.buffers Iff.rfl rfl rfl
    exact hkept.of_owner howner
  · have hfree := applySwitch_not_held (s := s) (r := r) (by simp [State.switchAborts, hclass])
    exact .inl ⟨e, Runtime.initial, he, by rw [hclass]; rfl, claims_initial e hfree⟩
  · have hfree := applySwitch_not_held (s := s) (r := r) (by simp [State.switchAborts, hclass])
    exact .inr ⟨he, by rw [hclass]; rfl, hfree⟩
  · refine .inr ⟨he, by rw [hclass]; rfl, fun l hheld => ?_⟩
    rcases applySwitch_hold_cases s l with ⟨_, _, _, hidle⟩ | ⟨hsame, _⟩
    · rw [hidle] at hheld
      cases hheld
    · rw [hsame] at hheld
      obtain ⟨d, _, hd', _⟩ := hs.claims.record hheld
      rw [hd] at hd'
      cases hd'

/-- The lengths of the records that lanes still hold after a switch stay. -/
theorem applySwitch_length {r : RecNo} {l : LaneNo} (hs : s.LanesOk) (hr : (s.lane l).hold.record = some r)
    (hkeeps : s.switchAborts r = false) :
    ∃ d e, s.activeDef r = some d ∧ s.applySwitch.activeDef r = some e ∧ e.length = d.length := by
  obtain ⟨d, _, hd, _⟩ := hs.claims.record hr
  obtain ⟨e, he, _, _, hlength⟩ := recClass_kept hkeeps hd
  exact ⟨d, e, hd, (applySwitch_activeDef s r).trans he, hlength⟩

theorem applySwitch_descOk (hs : s.LanesOk) (n : Port) : s.applySwitch.DescOk n := by
  have hdesc := applySwitch_port s n
  rcases applySwitch_hold_cases s (laneOf n) with ⟨r, hr, hon, hidle⟩ | ⟨hsame, hkeeps⟩
  · refine descOk_of_not_fetch (by rw [hidle]; rfl) ?_
    rw [hdesc, hr, Option.any_some, if_pos hon]
    simp only [PortState.accept_frame, PortState.aborted]
    split
    · nofun
    · next hnot => exact (hs.desc n).not_inProgress (by simpa using hnot)
  · have hsamedesc : (s.applySwitch.port n).desc = (s.port n).desc := by
      rw [hdesc, if_neg]
      · simp
      · intro hany
        obtain ⟨r, hr, hon⟩ := (Option.any_eq_true _ _).mp hany
        rw [hkeeps r hr] at hon
        cases hon
    obtain ⟨hstate, hrecord⟩ := hs.desc n
    refine ⟨by rw [hsamedesc, hsame]; exact hstate, fun r i b hh => ?_⟩
    rw [hsame] at hh
    have hr : (s.lane (laneOf n)).hold.record = some r := by rw [hh]; rfl
    obtain ⟨hrec, d, hd, hlength⟩ := hrecord r i b hh
    obtain ⟨d', e, hd', he, hsamelength⟩ := applySwitch_length hs hr (hkeeps r hr)
    rw [hd] at hd'
    cases hd'
    rw [hsamedesc]
    exact ⟨hrec, e, he, hlength.trans hsamelength.symm⟩

/-- A switch keeps the laws: the records that lanes still hold keep owner and length (R92, R130 to R133). -/
theorem applySwitch_lanesOk (hs : s.LanesOk) : s.applySwitch.LanesOk := by
  refine ⟨applySwitch_claimsOk hs, fun l _ r i e hi he => ?_, applySwitch_descOk hs, fun hlow l => ?_⟩
  · rcases applySwitch_hold_cases s l with ⟨_, _, _, hidle⟩ | ⟨hsame, hkeeps⟩
    · rw [hidle] at hi
      cases hi
    · rw [hsame] at hi
      have hr := Hold.record_of_index hi
      obtain ⟨d, e', hd, he', hlength⟩ := applySwitch_length hs hr (hkeeps r hr)
      rw [he] at he'
      cases he'
      rw [hlength]
      exact hs.index l trivial r i d hi hd
  · have hidle := hs.reset (by simpa using hlow) l
    rcases applySwitch_hold_cases s l with ⟨_, _, _, hidle'⟩ | ⟨hsame, _⟩
    · exact hidle'
    · rw [hsame]
      exact hidle

/-! ## IDLE lanes and undefined records -/

/-- With every lane IDLE, no record defined and no descriptor IN_PROGRESS, the laws hold. -/
theorem lanesOk_of_idle {k : SchedHeader} (hidle : ∀ l, (t.lane l).hold = .idle) (ha : t.active = Image.undefined k)
    (hr : t.runtimes = Vector.replicate 128 none) (hdesc : ∀ n, (t.port n).desc.state ≠ .inProgress) : t.LanesOk := by
  refine ⟨fun r => .inr ⟨?_, runtime_of_replicate hr r, fun l => ?_⟩, fun l _ r i d hi => ?_,
    fun n => descOk_of_not_fetch (by rw [hidle]; rfl) (hdesc n), fun _ => hidle⟩
  · rw [State.activeDef, ha, undefined_defs]
  · rw [hidle]
    nofun
  · rw [hidle] at hi
    cases hi

/-- An entry to INIT with every lane IDLE (R99). -/
theorem enterInit_lanesOk (hidle : ∀ l, (s.lane l).hold = .idle) (hdesc : ∀ n, (s.port n).desc.state ≠ .inProgress) :
    s.enterInit.LanesOk := by
  obtain ⟨hactive, _, hruntimes⟩ := enterInit_table s
  refine lanesOk_of_idle (fun l => ?_) hactive hruntimes fun n => ?_
  · have hlane : s.enterInit.lane l = s.lane l := by simp [State.lane]
    rw [hlane]
    exact hidle l
  · rw [enterInit_port]
    simpa using hdesc n

theorem passClear_lanesOk (hs : s.LanesOk) : s.passClear.LanesOk := by
  obtain ⟨hactive, _, hruntimes⟩ := passClear_table s
  refine lanesOk_of_idle (fun l => ?_) hactive hruntimes fun n => ?_
  · rw [passClear_lane]
    cases hh : (s.lane l).hold <;> simp [Hold.record, hh]
  · have hnot := (hs.desc n).not_inProgress
    rw [passClear_port]
    cases hh : (s.lane (laneOf n)).hold with
    | fetching r i b => simp [Hold.record, PortState.aborted, Hold.isFetch]
    | _ =>
      have hstate := hnot (by rw [hh]; rfl)
      simpa [Hold.record, PortState.aborted, Hold.isFetch] using hstate

theorem resetParts_idle (s : State) (l : LaneNo) : (s.resetParts.lane l).hold = .idle := by
  have hlanes : s.resetParts.lanes = Vector.replicate 5 ⟨.idle, .none⟩ := rfl
  simp [State.lane, hlanes]

theorem resetParts_desc (s : State) (n : Port) : (s.resetParts.port n).desc.state ≠ .inProgress := by
  rw [resetParts_port]
  nofun

theorem controlClosed_lanesOk : ControlClosed fun s => s.LanesOk where
  handAll s ps e h := by
    refine h.of_fields (by simp) (by simp) (by simp) (fun n => ?_) (by simp)
    rw [handAll_port]
    split
    · simp
    · rfl
  setBallot s _ h := h.of_fields (s := s) rfl rfl rfl (fun _ => rfl) rfl
  setExchange s _ h := h.of_fields (s := s) rfl rfl rfl (fun _ => rfl) rfl
  setTb s _ h := h.of_fields (s := s) rfl rfl rfl (fun _ => rfl) rfl
  setFlag s _ h := h.of_fields (s := s) rfl rfl rfl (fun _ => rfl) rfl
  applySwitch _ h := applySwitch_lanesOk h
  passClear _ h := passClear_lanesOk h

/-! ## Points (R43, R46, R47) -/

theorem rotate_claims {rt : Runtime} (h : rt.staging = .ready) :
    rt.rotate.staging ≠ .filling ∧ rt.rotate.stageWaiting = rt.stageWaiting ∧ rt.rotate.pins = rt.pins := by
  unfold Runtime.rotate
  split
  · exact ⟨by rw [h]; nofun, rfl, rfl⟩
  · split
    · exact ⟨nofun, rfl, rfl⟩
    · exact ⟨nofun, rfl, rfl⟩

/-- A point keeps a record's claims: its rotation finds READY, no STAGE, and leaves the pins (R31). -/
theorem State.Claims.point {r : RecNo} {d : RecordDef} {rt : Runtime} (cycle : Byte) (h : s.Claims r d rt) :
    s.Claims r d (pointRuntime d rt cycle) := by
  rw [pointRuntime_eq]
  split
  · next hready =>
    obtain ⟨hstaging, hwaiting, hpins⟩ := rotate_claims hready
    refine h.of_runtime (rt.publish_buffersOk cycle h.buffers hready) ⟨fun e => absurd e hstaging, fun e => ?_⟩ hwaiting hpins
    rw [hready] at e
    cases e
  · split
    · exact h
    · exact h.of_runtime (rt.miss_buffersOk _ h.buffers) Iff.rfl rfl rfl

theorem takePoint_desc (s : State) (r : RecNo) (n : Port) : ((s.takePoint r).port n).desc = (s.port n).desc := by
  have hhand (u : State) (ps : PortSet) (e : Entry) (hu : (u.port n).desc = (s.port n).desc) :
      ((u.handAll ps e).port n).desc = (s.port n).desc := by
    rw [handAll_port]
    split
    · simpa using hu
    · exact hu
  unfold State.takePoint
  split
  · split
    · exact publishEntries_keeps (P := fun u => (u.port n).desc = (s.port n).desc) hhand _ _ _ _ rfl
    · split
      · rfl
      · exact missEntries_keeps (P := fun u => (u.port n).desc = (s.port n).desc) hhand _ _ _ _ rfl
  · rfl

theorem takePoint_lanesOk (r : RecNo) (hs : s.LanesOk) : (s.takePoint r).LanesOk := by
  rcases takePoint_cases s r with hsame | ⟨d, rt, hd, hrt⟩
  · rw [hsame]
    exact hs
  · have hlane (k : LaneNo) : ((s.takePoint r).lane k).hold = (s.lane k).hold := by simp [State.lane]
    have hactive : (s.takePoint r).active = s.active := by simp
    obtain ⟨d', hd', hclaims⟩ := hs.claims.of_runtime hrt
    rw [hd] at hd'
    cases hd'
    refine ⟨ClaimsOk_of_local r hs.claims hactive (fun q hq => ?_) (fun k => .inl (hlane k)) ⟨d, _, hd, ?_,
      (hclaims.point s.tb.cycleNumber).of_same_holds fun k => .inl (hlane k)⟩,
      fun k _ => indexOk_of_same (hs.index k trivial) hactive (hlane k),
      fun n => descOk_of_same_hold (hs.desc n) hactive (takePoint_desc s r n) (hlane _), fun hlow k => ?_⟩
    · rw [takePoint_runtime s r q d rt hd hrt, if_neg hq]
    · rw [takePoint_runtime s r r d rt hd hrt, if_pos rfl]
    · rw [hlane]
      exact hs.reset (by simpa using hlow) k

theorem takePoints_lanesOk (hs : s.LanesOk) : s.takePoints.LanesOk := by
  refine foldl_preserves _ (fun t => t.LanesOk) (fun u r hu => ?_) allRecords s hs
  split
  · exact takePoint_lanesOk r hu
  · exact hu

/-! ## Every step -/

/-- A record kept BLOCKED by its pins leaves no WAITING STAGE to start. -/
theorem waitingStart_eq_none (hs : s.LanesOk) (n : Port) : s.waitingStart n = none := by
  cases hw : s.waitingStart n with
  | none => rfl
  | some u =>
    obtain ⟨r, rt, b, _, hrt, hfreed, _⟩ := waitingStart_cases hw
    obtain ⟨_, _, hclaims⟩ := hs.claims.of_runtime hrt
    obtain ⟨_, _, _, _, hpinned, _⟩ := hclaims.buffers
    unfold Runtime.freedBuf at hfreed
    split at hfreed
    · next hblocked =>
      simp only [Bool.and_eq_true, decide_eq_true_eq] at hblocked
      have hfound := List.find?_some hfreed
      simp only [Bool.and_eq_true, decide_eq_true_eq] at hfound
      have hpos := hpinned hblocked.1 b hfound.1
      omega
    · cases hfreed

theorem resetLow_of_live (h : s.live = true) : s.resetLow = false := by
  simpa using (Bool.and_eq_true_iff.mp h).2

/-- A record byte that a request of R83, R87 or R178 does not refuse names a defined record. -/
theorem activeDef_of_activeOf {record : Byte} {r : RecNo} (hr : recNo? record = some r)
    (h : (s.activeOf record).isNone = false) : ∃ d, s.activeDef r = some d := by
  simp only [State.activeOf, hr, Option.bind_some] at h
  cases hd : s.activeDef r with
  | none =>
    rw [hd] at h
    cases h
  | some d => exact ⟨d, rfl⟩

theorem stage_of_check {n : Port} {record : Byte} {r : RecNo} (hr : recNo? record = some r)
    (h : s.stageCheck n record = none) :
    (s.lane (laneOf n)).hold = .idle ∧ ∃ d, s.activeDef r = some d ∧ d.owner = n := by
  obtain ⟨h, _⟩ := or_eq_none h
  obtain ⟨h, howner⟩ := or_eq_none h
  obtain ⟨h, hdefined⟩ := or_eq_none h
  obtain ⟨_, hbusy⟩ := or_eq_none h
  obtain ⟨d, hd⟩ := activeDef_of_activeOf hr (refuseIf_eq_none hdefined)
  have hmine := refuseIf_eq_none howner
  simp only [State.activeOf, hr, Option.bind_some, hd, Option.any_some, Bool.not_eq_false', decide_eq_true_eq] at hmine
  exact ⟨by simpa using refuseIf_eq_none hbusy, d, hd, hmine⟩

theorem fetch_of_check {n : Port} {record : Byte} {r : RecNo} (hr : recNo? record = some r)
    (h : s.fetchCheck n record = none) : (s.lane (laneOf n)).hold = .idle ∧ ∃ d, s.activeDef r = some d := by
  obtain ⟨h, _⟩ := or_eq_none h
  obtain ⟨h, _⟩ := or_eq_none h
  obtain ⟨h, hdefined⟩ := or_eq_none h
  obtain ⟨_, hbusy⟩ := or_eq_none h
  exact ⟨by simpa using refuseIf_eq_none hbusy, activeDef_of_activeOf hr (refuseIf_eq_none hdefined)⟩

theorem peek_of_check {record : Byte} {r : RecNo} (hr : recNo? record = some r) (h : s.lmRefusal record = none) :
    (s.lane lm).hold = .idle ∧ ∃ d, s.activeDef r = some d := by
  unfold State.lmRefusal at h
  rw [hr] at h
  dsimp only at h
  split at h
  · cases h
  · split at h
    · cases h
    · next hbusy =>
      split at h
      · cases h
      · next hdefined =>
        refine ⟨by simpa using hbusy, ?_⟩
        cases hd : s.activeDef r with
        | none =>
          rw [hd] at hdefined
          exact absurd rfl hdefined
        | some d => exact ⟨d, rfl⟩

theorem index_of_transferDone {l : LaneNo} (h : s.transferDone l = true) : (s.lane l).hold.index ≠ none := by
  unfold State.transferDone at h
  cases hh : (s.lane l).hold with
  | staging r i | fetching r i b => nofun
  | idle | waiting r =>
    rw [hh] at h
    nomatch h

/-- No transfer that has ended waits for its end (log entry 11). -/
theorem transferDone_eq_false (hs : s.LanesOk) (l : LaneNo) : s.transferDone l = false := by
  cases hdone : s.transferDone l with
  | false => rfl
  | true =>
    have hindex := index_of_transferDone hdone
    cases hi : (s.lane l).hold.index with
    | none => exact absurd hi hindex
    | some x =>
      obtain ⟨r, i⟩ := x
      obtain ⟨d, _, hd, _⟩ := hs.claims.record (Hold.record_of_index hi)
      have hlt := hs.index l trivial r i d hi hd
      have hle : d.length ≤ i := by
        unfold State.transferDone at hdone
        cases hh : (s.lane l).hold <;> rw [hh] at hi hdone <;> cases hi <;> simpa [hd] using hdone
      omega

theorem effect_lanesOk {u : State} {c : Instr} (he : Effect s c u) (hs : s.LanesOk) (ht : s.TableOk) : u.LanesOk := by
  have closed := controlClosed_lanesOk
  have same {v : State} (hl : v.lanes = s.lanes) (ha : v.active = s.active) (hr : v.runtimes = s.runtimes)
      (hp : ∀ n, (v.port n).desc = (s.port n).desc) (hreset : v.resetLow = s.resetLow) : v.LanesOk :=
    hs.of_fields hl ha hr hp hreset
  cases he with
  | stay => exact hs
  | powerOn memb => exact enterInit_lanesOk (resetParts_idle _) (resetParts_desc _)
  | powerLoss => exact same rfl rfl rfl (fun _ => rfl) rfl
  | resetN => exact lanesOk_of_idle (k := s.opt.resetHeader) (resetParts_idle s) rfl rfl (resetParts_desc s)
  | resetNRelease hr =>
    have hidle := hs.reset hr
    exact enterInit_lanesOk hidle fun n => (hs.desc n).not_inProgress (by rw [hidle]; rfl)
  | clearDone =>
    have hnote (v : State) (n : Port) : ((v.exchangeNote).port n).desc = (v.port n).desc := by
      rw [exchangeNote_eq, notedAll_port]
      simp
    exact same (by simp) (by simp) (by simp) (fun n => hnote _ n) (by simp)
  | take n e rest =>
    refine same rfl rfl rfl (fun m => ?_) rfl
    rw [modPort_port]
    split
    · next hm => rw [hm]
    · rfl
  | writeWindow n f =>
    refine same rfl rfl rfl (fun m => ?_) rfl
    rw [modPort_port]
    split
    · next hm => rw [hm]
    · rfl
  | edit => exact same rfl rfl rfl (fun _ => rfl) rfl
  | stage n record r hl hr hcheck =>
    obtain ⟨hidle, d, hd, howner⟩ := stage_of_check hr hcheck
    exact startStage_lanesOk hs (resetLow_of_live hl) hidle hd howner (activeDef_length_pos ht d hd)
  | fetch n record r hl hr hcheck =>
    obtain ⟨hidle, d, hd⟩ := fetch_of_check hr hcheck
    exact startFetch_lanesOk hs (resetLow_of_live hl) hidle hd (activeDef_length_pos ht d hd)
  | peek record r hl hr hcheck =>
    obtain ⟨hidle, d, hd⟩ := peek_of_check hr hcheck
    exact startPeek_lanesOk record hs (resetLow_of_live hl) hidle hd (activeDef_length_pos ht d hd)
  | vote n i v => exact closed.takeVote n i v hs
  | freeze => exact closed.freezeExchange hs (freezeAborts_lanesOk hs)
  | portReset n => exact resetPort_lanesOk n hs ht
  | wordAccess l a t _ ha => exact wordAccess_lanesOk hs ht ha
  | completeLane n hdone =>
    rw [transferDone_eq_false hs] at hdone
    cases hdone
  | completeLm hdone =>
    rw [transferDone_eq_false hs] at hdone
    cases hdone
  | waitingStart n t ht =>
    rw [waitingStart_eq_none hs] at ht
    cases ht
  | tick =>
    exact takePoints_lanesOk (s := s.setTb s.tb.handTick) (hs.of_fields (s := s) rfl rfl rfl (fun _ => rfl) rfl)
  | cycleStart => exact closed.cycleStartWork (closed.setTb s _ hs)
  | switch => exact applySwitch_lanesOk hs
  | pulseEnd => exact closed.setTb s _ hs
  | syncPulse => exact closed.takePulse hs
  | missedPulse => exact closed.changeDiscipline _ hs
  | ballotTimer => exact closed.setBallot s _ hs
  | ballotExpiry b => exact closed.closeBallot b _ _ _ hs

/-- Settles O57: each claim on a runtime goes with the turn of the lane that hands it, and a switch keeps the owner and the length of
every record that a lane still holds. -/
theorem everyStepKeepsTheTransferLaws : Obligations.EveryStepKeepsTheTransferLaws := by
  unfold Obligations.EveryStepKeepsTheTransferLaws
  rintro s t hstep htransfers ⟨htable, _⟩ _
  refine (transfersOk_iff t).mpr (step_keeps (Q := fun s => s.LanesOk ∧ s.TableOk) (P := fun s => s.LanesOk)
    (fun s _ ⟨h, ht⟩ => ⟨h.of_fields (s := s) rfl rfl rfl (fun _ => rfl) rfl, ht⟩) (fun _ ⟨h, _⟩ => h)
    (fun u t hsame hu => hu.of_fields hsame.lanes hsame.active hsame.runtimes (fun n => (hsame.port n).desc) hsame.resetLow)
    (fun _ _ _ he ⟨h, ht⟩ => effect_lanesOk he h ht) (fun s _ ⟨h, _⟩ => ?_) hstep ⟨(transfersOk_iff s).mp htransfers, htable⟩)
  exact controlClosed_lanesOk.setTb s _ h

end Switch

end Sys2Proof.Machine

/-! # Steps: what they run, that they answer, and what reaches a dead part -/

namespace Sys2Proof.Machine

/-- Settles O1: by the definition of a step, and field by field for the passing of time. -/
theorem stepRunsFrontCommand : Obligations.StepRunsFrontCommand := by
  unfold Obligations.StepRunsFrontCommand
  refine ⟨fun c rest s => step_cons s c rest, fun s => ⟨fun hempty => ?_, passTime_of_dead s, ?_⟩⟩
  · unfold step
    rw [hempty]
  · unfold State.passTime
    split
    · rfl
    · rfl

/-! ## Every command answers -/

/-- An answer is a next state. -/
def Answer.IsNext (x : Answer) : Prop := ∃ t, x = .next t

theorem Answer.isNext_next (t : State) : Answer.IsNext (.next t) := ⟨t, rfl⟩

theorem ifDue_isNext (due : Bool) (s e : State) : Answer.IsNext (ifDue due s e) := ⟨_, rfl⟩

theorem writeKind_isNext (s : State) (n : Port) (code : Byte) (params after : List Byte) (x : Option Result) (e : State) :
    Answer.IsNext (writeKind s n code params after x e) := ifDue_isNext ..

theorem execHcheckArrival_isNext (n : Port) (h : FrameHeader) (s : State) : Answer.IsNext (execHcheckArrival n h s) := by
  unfold execHcheckArrival
  repeat' split
  all_goals exact ifDue_isNext ..

theorem takeCode_isNext (b : Byte) (s : State) : Answer.IsNext (takeCode b s) := by
  unfold takeCode
  repeat' split
  all_goals exact ifDue_isNext ..

theorem takeOperand_isNext (code : Byte) (received : List Byte) (b : Byte) (s : State) :
    Answer.IsNext (takeOperand code received b s) := by
  unfold takeOperand
  repeat' split
  all_goals exact ifDue_isNext ..

theorem execMlineCommandByte_isNext (b : Byte) (s : State) : Answer.IsNext (execMlineCommandByte b s) := by
  unfold execMlineCommandByte
  split
  · exact takeCode_isNext b s
  · exact takeOperand_isNext _ _ b s
  · exact Answer.isNext_next s
  · exact Answer.isNext_next s

theorem execBallotTimerTick_isNext (s : State) : Answer.IsNext (execBallotTimerTick s) := by
  unfold execBallotTimerTick
  split
  · exact ifDue_isNext ..
  · exact Answer.isNext_next s

theorem execBallotExpiry_isNext (s : State) : Answer.IsNext (execBallotExpiry s) := by
  unfold execBallotExpiry
  split
  · exact ifDue_isNext ..
  · exact Answer.isNext_next s

theorem exec_isNext {c : Instr} (h : c ≠ .wordAccess) (s : State) : Answer.IsNext (exec c s) := by
  cases c with
  | wordAccess => exact absurd rfl h
  | powerOn => exact Answer.isNext_next _
  | powerLoss => exact Answer.isNext_next _
  | hcheckArrival n x => exact execHcheckArrival_isNext n x s
  | mlineCommandByte b => exact execMlineCommandByte_isNext b s
  | ballotTimerTick => exact execBallotTimerTick_isNext s
  | ballotExpiry => exact execBallotExpiry_isNext s
  | writeWindow => exact writeKind_isNext ..
  | stage => exact writeKind_isNext ..
  | fetch => exact writeKind_isNext ..
  | acknowledge => exact writeKind_isNext ..
  | setAttention => exact writeKind_isNext ..
  | editRecord => exact writeKind_isNext ..
  | dropRecord => exact writeKind_isNext ..
  | editHeader => exact writeKind_isNext ..
  | revertShadow => exact writeKind_isNext ..
  | vote => exact writeKind_isNext ..
  | freeze => exact writeKind_isNext ..
  | portReset n => exact writeKind_isNext s n 0x4F [] [] none (s.resetPort n)
  | _ => exact ifDue_isNext ..

/-- WORD_ACCESS faults where the lane granted addresses a word that the store does not have, and answers elsewhere. -/
theorem execWordAccess_cases (s : State) :
    Answer.IsNext (execWordAccess s)
      ∨ ∃ l a u, s.nextGrant = some l ∧ s.access l = some (a, u) ∧ Config.storeWords ≤ a
          ∧ execWordAccess s = .fault .storeAddress := by
  unfold execWordAccess
  split
  · exact .inl (Answer.isNext_next s)
  · next l hgrant =>
    have hl : s.nextGrant = some l := by
      split at hgrant
      · exact hgrant
      · cases hgrant
    split
    · exact .inl (Answer.isNext_next s)
    · next a u haccess =>
      split
      · exact .inl (Answer.isNext_next _)
      · next hbeyond => exact .inr ⟨l, a, u, hl, haccess, Nat.le_of_not_lt hbeyond, rfl⟩

/-- The lane granted has a word left to move. -/
theorem wantsAccess_of_nextGrant {s : State} {l : LaneNo} (h : s.nextGrant = some l) : s.wantsAccess l = true :=
  List.find?_some h

/-- The word that a lane with a word left moves lies in its record's group (R3, R4). -/
theorem access_lt_storeWords {s u : State} {l : LaneNo} {a : Nat} (ht : s.TableOk) (hwants : s.wantsAccess l = true)
    (h : s.access l = some (a, u)) : a < Config.storeWords := by
  have hgroup {r : RecNo} {d : RecordDef} (hd : s.activeDef r = some d) : d.base + 3 * d.length ≤ Config.storeWords := by
    have hrange := ht.1.1 r d hd
    simp only [RecordDef.inRange, Bool.and_eq_true, decide_eq_true_eq] at hrange
    exact hrange.1.2
  unfold State.wantsAccess at hwants
  rcases access_cases h with ⟨n, r, i, d, rt, b, _, hhold, hd, _, _, rfl, _⟩ | ⟨r, i, b, d, hhold, hd, rfl, _⟩
  · simp only [hhold, hd, Option.any_some, Bool.and_eq_true, decide_eq_true_eq] at hwants
    obtain ⟨⟨hi, _⟩, _⟩ := hwants
    have haddress := (address_mem_group b hi).2
    have hbound := hgroup hd
    omega
  · simp only [hhold, hd, Option.any_some, decide_eq_true_eq] at hwants
    have haddress := (address_mem_group b hwants).2
    have hbound := hgroup hd
    omega

/-- Settles O3: only WORD_ACCESS has an answer that is no next state, and only past the end of the store. -/
theorem commandsAnswerNextState : Obligations.CommandsAnswerNextState := by
  unfold Obligations.CommandsAnswerNextState
  refine ⟨fun c s h => exec_isNext h s, fun s ht => ?_, fun s => ?_⟩
  · rcases execWordAccess_cases s with hnext | ⟨l, a, u, hgrant, haccess, hbeyond, _⟩
    · exact hnext
    · exact absurd (access_lt_storeWords ht (wantsAccess_of_nextGrant hgrant) haccess) (Nat.not_lt_of_le hbeyond)
  · rcases execWordAccess_cases s with hnext | ⟨_, _, _, _, _, _, hfault⟩
    · exact .inr hnext
    · exact .inl hfault

/-! ## A dead part -/

section Dead

variable {s : State} (h : s.live = false)
include h

theorem headerOn_of_dead (n : Port) : s.headerOn n = false := by simp [State.headerOn, h]

theorem writeKind_of_dead (n : Port) (code : Byte) (params after : List Byte) (x : Option Result) (e : State) :
    writeKind s n code params after x e = .next s := by simp [writeKind, State.writeFrameOn, h]

theorem counting_of_dead : s.counting = false := by simp [State.counting, h]

theorem byteCanCome_of_dead : s.byteCanCome = false := by simp [State.byteCanCome, h]

theorem codeCanCome_of_dead : s.codeCanCome = false := by simp [State.codeCanCome, byteCanCome_of_dead h]

theorem lastOperandCanCome_of_dead (code : Byte) (received : List Byte) : s.lastOperandCanCome code received = false := by
  simp [State.lastOperandCanCome, byteCanCome_of_dead h]

theorem readKinds_of_dead :
    (∀ n, execStatus n s = .next s) ∧ (∀ n o c, execReadWindow n o c s = .next s) ∧ (∀ n, execTake n s = .next s)
      ∧ (∀ n r i, execReadRecord n r i s = .next s) ∧ (∀ n i, execReadHeader n i s = .next s)
      ∧ (∀ n, execReadBallot n s = .next s) ∧ ∀ n x, execUnknownCode n x s = .next s := by
  simp [execStatus, execReadWindow, execTake, execReadRecord, execReadHeader, execReadBallot, execUnknownCode, headerOn_of_dead h]

theorem execHcheckArrival_of_dead (n : Port) (x : FrameHeader) : execHcheckArrival n x s = .next s := by
  obtain ⟨hstatus, hwindow, htake, hrecord, hheader, hballot, hunknown⟩ := readKinds_of_dead h
  simp [execHcheckArrival, headerOn_of_dead h, hstatus, hwindow, htake, hrecord, hheader, hballot, hunknown]

theorem lineCommands_of_dead :
    execStatusPeek s = .next s ∧ execFreezeCommand s = .next s ∧ execOptionRead s = .next s
      ∧ (∀ b, takeCommandByte b s = .next s) ∧ (∀ c, execUnknownCommand c s = .next s) ∧ (∀ r, execDefPeek r s = .next s)
      ∧ (∀ r, execDataPeek r s = .next s) ∧ (∀ p i, execQueuePeek p i s = .next s)
      ∧ ∀ image check, execOptionWrite image check s = .next s := by
  simp [execStatusPeek, execFreezeCommand, execOptionRead, takeCommandByte, execUnknownCommand, execDefPeek, execDataPeek,
    execQueuePeek, execOptionWrite, byteCanCome_of_dead h, codeCanCome_of_dead h, lastOperandCanCome_of_dead h]

theorem execMlineCommandByte_of_dead (b : Byte) : execMlineCommandByte b s = .next s := by
  obtain ⟨hstatus, hfreeze, hread, hbyte, hunknown, hdef, hdata, hqueue, hwrite⟩ := lineCommands_of_dead h
  unfold execMlineCommandByte takeCode takeOperand
  simp only [hstatus, hfreeze, hread, hbyte, hunknown, hdef, hdata, hqueue, hwrite, ite_self]
  split
  · rfl
  · rfl
  · rfl
  · rfl

theorem lineEvents_of_dead :
    execLineBreak s = .next s ∧ execCollision s = .next s ∧ execFramingError s = .next s ∧ (∀ b, execCodeByte b s = .next s)
      ∧ execLastResponseByteSent s = .next s ∧ execDataPeekResponse s = .next s := by
  simp [execLineBreak, execCollision, execFramingError, execCodeByte, execLastResponseByteSent, execDataPeekResponse,
    byteCanCome_of_dead h, h]

theorem timebase_of_dead :
    execTick s = .next s ∧ execCycleStart s = .next s ∧ execSyncoutPulseEnd s = .next s ∧ execSyncPulse s = .next s
      ∧ execMissedPulseEvent s = .next s := by
  simp [execTick, execCycleStart, execSyncoutPulseEnd, execSyncPulse, execMissedPulseEvent, State.nextTickDue, State.pulseEndDue,
    State.missedDue, counting_of_dead h, h]

theorem transfers_of_dead :
    execWordAccess s = .next s ∧ (∀ n, execStageComplete n s = .next s) ∧ (∀ n, execFetchComplete n s = .next s)
      ∧ execLmComplete s = .next s ∧ ∀ n, execWaitingStageStart n s = .next s := by
  simp [execWordAccess, execStageComplete, execFetchComplete, execLmComplete, execWaitingStageStart, h]

theorem ballots_of_dead : execBallotTimerTick s = .next s ∧ execBallotExpiry s = .next s := by
  unfold execBallotTimerTick execBallotExpiry
  cases s.ballot.current <;> simp [h]

end Dead

/-- Settles O4: what comes to a dead part is not due. -/
theorem deadPartTakesNothing : Obligations.DeadPartTakesNothing := by
  unfold Obligations.DeadPartTakesNothing
  intro c s h hreach
  obtain ⟨hstatus, hwindow, htake, hrecord, hheader, hballot, hunknown⟩ := readKinds_of_dead h
  obtain ⟨hpeek, hfreeze, hread, _, hcommand, hdef, hdata, hqueue, hwrite⟩ := lineCommands_of_dead h
  obtain ⟨hbreak, hcollision, hframing, hcode, hsent, hresponse⟩ := lineEvents_of_dead h
  obtain ⟨htick, hcycle, hpulseEnd, hpulse, hmissed⟩ := timebase_of_dead h
  obtain ⟨hword, hstage, hfetch, hlm, hwaiting⟩ := transfers_of_dead h
  obtain ⟨htimer, hexpiry⟩ := ballots_of_dead h
  cases c with
  | powerOn | powerLoss | resetNRelease | chipSelectAssert | chipSelectRelease | programmingComplete => cases hreach
  | resetN => simp [exec, execResetN, h]
  | clearDone => simp [exec, execClearDone, h]
  | switch => simp [exec, execSwitch, h]
  | frameDiscard => simp [exec, execFrameDiscard, State.discardOn, h]
  | hcheckArrival n x => exact execHcheckArrival_of_dead h n x
  | mlineCommandByte b => exact execMlineCommandByte_of_dead h b
  | status n => exact hstatus n
  | readWindow n o k => exact hwindow n o k
  | take n => exact htake n
  | readRecord n r i => exact hrecord n r i
  | readHeader n i => exact hheader n i
  | readBallot n => exact hballot n
  | unknownCode n x => exact hunknown n x
  | statusPeek => exact hpeek
  | freezeCommand => exact hfreeze
  | optionRead => exact hread
  | unknownCommand code => exact hcommand code
  | defPeek r => exact hdef r
  | dataPeek r => exact hdata r
  | queuePeek p i => exact hqueue p i
  | optionWrite image check => exact hwrite image check
  | lineBreak => exact hbreak
  | collision => exact hcollision
  | framingError => exact hframing
  | codeByte b => exact hcode b
  | lastResponseByteSent => exact hsent
  | dataPeekResponse => exact hresponse
  | tick => exact htick
  | cycleStart => exact hcycle
  | syncoutPulseEnd => exact hpulseEnd
  | syncPulse => exact hpulse
  | missedPulseEvent => exact hmissed
  | wordAccess => exact hword
  | stageComplete n => exact hstage n
  | fetchComplete n => exact hfetch n
  | lmComplete => exact hlm
  | waitingStageStart n => exact hwaiting n
  | ballotTimerTick => exact htimer
  | ballotExpiry => exact hexpiry
  | writeWindow => exact writeKind_of_dead h ..
  | stage => exact writeKind_of_dead h ..
  | fetch => exact writeKind_of_dead h ..
  | acknowledge => exact writeKind_of_dead h ..
  | setAttention => exact writeKind_of_dead h ..
  | editRecord => exact writeKind_of_dead h ..
  | dropRecord => exact writeKind_of_dead h ..
  | editHeader => exact writeKind_of_dead h ..
  | revertShadow => exact writeKind_of_dead h ..
  | vote => exact writeKind_of_dead h ..
  | freeze => exact writeKind_of_dead h ..
  | portReset n => exact writeKind_of_dead h n 0x4F [] [] none (s.resetPort n)

end Sys2Proof.Machine

/-! # Power, RESET_N and the end of the store clear (R20, R99, R100, R110) -/

namespace Sys2Proof.Machine

/-! ## The values that resets set -/

/-- The header after a header reset, by the option image (R5, R6). -/
theorem resetHeader_eq (o : OptionStore) :
    o.resetHeader =
      { mode := if o.state = .programmed ∧ o.image.resetMode = 1 then .follower else .master,
        cycleTicks := if o.state = .programmed ∧ 200 ≤ o.image.resetCycleTicks.toNat
            ∧ o.image.resetCycleTicks.toNat ≤ 50000 then o.image.resetCycleTicks.toNat else 1000,
        acqTol := 20, lockTol := 2, nAcq := 4, nLock := 16, holdoverLimit := 32, syncWin := 100, ballotTime := 50 } := by
  have hmode : o.mode = if o.state = .programmed ∧ o.image.resetMode = 1 then .follower else .master := by
    have hread (b : Byte) : (mode? b).getD .master = if b = 1 then .follower else .master := by
      unfold mode?
      split
      · next hzero =>
        rw [hzero]
        rfl
      · split
        · rfl
        · rfl
    unfold OptionStore.mode
    rw [hread]
    by_cases hstate : o.state = .programmed
    · simp [hstate]
    · simp [hstate]
  have hticks : o.cycleTicks = if o.state = .programmed ∧ 200 ≤ o.image.resetCycleTicks.toNat
      ∧ o.image.resetCycleTicks.toNat ≤ 50000 then o.image.resetCycleTicks.toNat else 1000 := by
    simp [OptionStore.cycleTicks, and_assoc]
  unfold OptionStore.resetHeader
  rw [hmode, hticks]

/-- A programming that was cut was not a programmed store (R183). -/
theorem powerUp_programmed (o : OptionStore) : o.powerUp.state = .programmed ↔ o.state = .programmed := by
  unfold OptionStore.powerUp
  split
  · next h => simp [h]
  · rfl

theorem powerUp_image (o : OptionStore) : o.powerUp.image = o.image := by
  unfold OptionStore.powerUp
  split <;> rfl

theorem powerUp_eq (o : OptionStore) :
    o.powerUp = { o with state := if o.state = .programming then .unprogrammed else o.state } := by
  unfold OptionStore.powerUp
  split <;> rfl

/-- The values that a stop and a restart set (R143). -/
theorem fresh_eq (m : Mode) (running : Bool) :
    Timebase.fresh m running =
      { running := running, tickCount := 0, tickHanded := false, cycleNumber := 0, trim := 0,
        discipline := if m = .master then .master else .seek, acquireRun := 0, lockRun := 0,
        missedRun := 0, holdoverCount := 0, startCredit := false, nextCredit := false, spurious := 0,
        missedMade := false, syncOut := false, syncOutAge := 0 } := by
  cases m <;> rfl

/-- A port after power-on and RESET_N (R73, R97, R169). -/
theorem resetAll_eq (p : PortState) :
    p.resetAll =
      { selected := p.selected, parser := .wait, byteCount := 0, summaryOut := [], responseOut := [],
        lastResult := .ok, writeWindow := Vector.replicate 32 0, readWindow := Vector.replicate 32 0,
        desc := { state := .none, record := 0, version := 0, health := .unpublished, lastCycle := 0, length := 0 },
        queue := [], lost := 0, overflow := false, xfer := false, frame := false, enables := 0b11101#5,
        watermark := 16, noteMask := 0b1111#4 } := rfl

/-- An empty queue with the default mask takes the EXCHANGE note (R61, R75). -/
theorem accept_resetAll (p : PortState) (c : Byte) (x : ExState) :
    p.resetAll.accept (.exchange c x) = { p.resetAll with queue := [.exchange c x] } := by
  simp [PortState.accept, PortState.masks, Entry.maskBit, PortState.join, PortState.resetAll, PortState.resetAttention,
    Config.defaultMask, Config.queueCapacity]

/-- What power-on and RESET_N leave of each block. -/
theorem resetParts_blocks (s : State) :
    (∀ l : LaneNo, s.resetParts.lane l = ⟨.idle, .none⟩) ∧ (∀ r : RecNo, s.resetParts.runtime r = none)
      ∧ s.resetParts.active = Image.undefined s.opt.resetHeader ∧ s.resetParts.shadow = s.resetParts.active
      ∧ s.resetParts.tb = .fresh s.opt.resetHeader.mode false := by
  refine ⟨fun l => ?_, fun r => runtime_of_replicate rfl r, rfl, rfl, rfl⟩
  have hlanes : s.resetParts.lanes = Vector.replicate 5 ⟨.idle, .none⟩ := rfl
  simp [State.lane, hlanes]

/-- The line rate read at power-on (R171, R181), and the access code (R182), of a store that power-on finds. -/
theorem powerUp_reads (o : OptionStore) : o.powerUp.rate = o.rate ∧ o.powerUp.code = o.code
    ∧ o.powerUp.resetHeader = o.resetHeader := by
  refine ⟨?_, ?_, ?_⟩
  · simp only [OptionStore.rate, powerUp_programmed, powerUp_image]
  · simp only [OptionStore.code, powerUp_programmed, powerUp_image]
  · simp only [resetHeader_eq, powerUp_programmed, powerUp_image]

/-- Settles O5: block by block, through the reset that power-on shares with RESET_N and the entry to INIT. -/
theorem powerOnResetsEveryBlock : Obligations.PowerOnResetsEveryBlock := by
  unfold Obligations.PowerOnResetsEveryBlock
  refine ⟨fun memb s => ⟨_, rfl, ?_⟩, fun s => rfl⟩
  obtain ⟨hlanes, _⟩ := resetParts_blocks (s.powerUp memb)
  obtain ⟨hrate, hcode, hheader⟩ := powerUp_reads s.opt
  obtain ⟨hactive, hshadow, hruntimes⟩ := enterInit_table (s.powerUp memb).resetParts
  obtain ⟨hexchange, hclearing⟩ := enterInit_exchange (s.powerUp memb).resetParts
  have hheader' : (s.powerUp memb).resetParts.opt.resetHeader = s.opt.resetHeader := hheader
  rw [hheader'] at hactive hshadow
  refine ⟨by simp, by simp [State.powerUp], by simp [State.powerUp], by simp [State.powerUp, latchMembers], fun n => ?_,
    fun l => ?_, ?_, ?_, ?_, fun r => runtime_of_replicate hruntimes r, by simp, hclearing, hexchange, ?_, ?_, ?_, ?_, ?_⟩
  · rw [enterInit_port, resetParts_port, accept_resetAll]
    rfl
  · have hlane : (s.powerUp memb).resetParts.enterInit.lane l = (s.powerUp memb).resetParts.lane l := by simp [State.lane]
    rw [hlane, hlanes]
  · simp [State.resetParts]
  · rw [hactive, ← resetHeader_eq]
    rfl
  · rw [hshadow, hactive]
  · simp [State.resetParts, BallotRecord.none]
  · simp [State.resetParts]
  · rw [enterInit_tb, hheader', hactive, fresh_eq]
    rfl
  · have hopt : (s.powerUp memb).resetParts.enterInit.opt = s.opt.powerUp := by simp [State.powerUp]
    rw [hopt, powerUp_eq]
  · have hml : (s.powerUp memb).resetParts.enterInit.ml = MLine.powerUp s.opt.powerUp := by
      simp [State.resetParts, State.powerUp, MLine.resetLine, MLine.powerUp]
    rw [hml, MLine.powerUp, hrate, hcode]
    rfl

/-- Settles O6: block by block. -/
theorem resetPinResetsEveryBlock : Obligations.ResetPinResetsEveryBlock := by
  unfold Obligations.ResetPinResetsEveryBlock
  intro s hlive
  obtain ⟨hlanes, hruntimes, hactive, hshadow, htb⟩ := resetParts_blocks s
  refine ⟨{ s.resetParts with resetLow := true }, ?_, rfl, rfl, rfl, rfl, fun n => ?_, hlanes, rfl, ?_, hshadow, hruntimes, rfl, rfl,
    rfl, rfl, rfl, ?_, rfl, rfl⟩
  · simp [exec, execResetN, hlive]
  · exact resetParts_port s n
  · rw [← resetHeader_eq]
    rfl
  · exact htb.trans (fresh_eq _ _)

/-- Settles O7: the release makes the entry to INIT and nothing more. -/
theorem resetReleaseEntersInit : Obligations.ResetReleaseEntersInit := by
  unfold Obligations.ResetReleaseEntersInit
  intro s hpowered hlow
  obtain ⟨hactive, hshadow, hruntimes⟩ := enterInit_table { s with resetLow := false }
  obtain ⟨hexchange, hclearing⟩ := enterInit_exchange { s with resetLow := false }
  refine ⟨({ s with resetLow := false }).enterInit, ?_, by simp, hexchange, hclearing, hactive, hshadow.trans hactive.symm,
    fun r => runtime_of_replicate hruntimes r, ?_, fun n => enterInit_port _ n, ?_⟩
  · simp [exec, execResetNRelease, hpowered, hlow]
  · rw [enterInit_tb, hactive, fresh_eq]
    rfl
  · simp

/-- Settles O8: field by field. -/
theorem clearDoneEntersConfig : Obligations.ClearDoneEntersConfig := by
  unfold Obligations.ClearDoneEntersConfig
  intro s hlive hclearing hexchange
  have hexec : exec .clearDone s = .next s.finishClear := by simp [exec, execClearDone, hlive, hclearing, hexchange]
  rw [hexec]
  congr 1
  unfold State.finishClear
  dsimp only
  rw [exchangeNote_eq]
  apply State.ext
  case h15 => exact fresh_eq _ _ -- the Timebase, which starts afresh
  all_goals rfl

end Sys2Proof.Machine

/-! # Frames of the host ports (10): assertion, header arrival, responses, discards, and the check byte -/

namespace Sys2Proof.Machine

/-! ## The summary (R161, R186) -/

/-- The bits of a summary byte are the flags and the code that it is made of (R186). -/
theorem summary_bits (atn busy queued : Bool) (x : ExState) :
    let w := byteOf ((if atn then 128 else 0) + 16 * x.code + (if busy then 8 else 0) + (if queued then 4 else 0))
    w.getLsbD 7 = atn ∧ (w.extractLsb' 4 3).toNat = x.code ∧ w.getLsbD 3 = busy ∧ w.getLsbD 2 = queued
      ∧ w.extractLsb' 0 2 = 0 := by
  cases x <;> revert atn busy queued <;> decide

/-- Settles O9: by the definition of the command, and bit by bit for the summary byte. -/
theorem chipSelectFormsSummary : Obligations.ChipSelectFormsSummary := by
  unfold Obligations.ChipSelectFormsSummary
  refine ⟨fun n s hoff => ?_, fun n s => ?_⟩
  · cases hlive : s.live with
    | true =>
      simp only [exec, execChipSelectAssert, hoff, hlive, Bool.not_false, ifDue_true, if_true]
      rfl
    | false =>
      simp only [exec, execChipSelectAssert, hoff, hlive, Bool.not_false, ifDue_true, if_false, Bool.false_eq_true]
      rfl
  · obtain ⟨hatn, hcode, hbusy, hqueued, hlow⟩ := summary_bits (s.port n).atnLow
      ((s.lane (laneOf n)).hold != Hold.idle) (s.port n).queueCause s.exchange
    refine ⟨hatn, hcode, hbusy.trans ?_, hqueued.trans ?_, hlow⟩
    · rw [Bool.eq_iff_iff]
      simp
    · rw [Bool.eq_iff_iff, PortState.queueCause_iff]
      simp [Nat.one_le_iff_ne_zero]

/-! ## Headers (R159, R186) -/

theorem valid_iff (h : FrameHeader) : h.valid = true ↔ h.hcheck = crc8 [h.code, h.p1, h.p2, h.p3] := by
  simp [FrameHeader.valid]

theorem headerOn_of {s : State} {n : Port} (hlive : s.live = true) (hparser : (s.port n).parser = .header) :
    s.headerOn n = true := by
  simp [State.headerOn, hlive, hparser]

/-- A header with a valid hcheck is carried out as its code says. -/
theorem exec_hcheckArrival_of_valid {n : Port} {h : FrameHeader} {s : State} (hvalid : h.valid = true)
    (hread : writeCodes.contains h.code = false) :
    exec (.hcheckArrival n h) s
      = if h.code = 0x10 then execStatus n s
        else if h.code = 0x11 then execReadWindow n h.p1 h.p2 s
        else if h.code = 0x12 then execTake n s
        else if h.code = 0x13 then execReadRecord n h.p1 h.p2 s
        else if h.code = 0x14 then execReadHeader n h.p1 s
        else if h.code = 0x15 then execReadBallot n s
        else execUnknownCode n h s := by
  have hnot : ¬ (!h.valid || writeCodes.contains h.code) = true := by
    rw [hvalid, hread]
    decide
  change execHcheckArrival n h s = _
  unfold execHcheckArrival
  rw [if_neg hnot]

theorem exec_hcheckArrival_of_write {n : Port} {h : FrameHeader} {s : State} (hlive : s.live = true)
    (hparser : (s.port n).parser = .header) (hend : (!h.valid || writeCodes.contains h.code) = true) :
    exec (.hcheckArrival n h) s
      = .next (s.withPort n { s.port n with parser := if h.valid then .payload h else .drain true, byteCount := 5 }) := by
  change execHcheckArrival n h s = _
  unfold execHcheckArrival
  rw [if_pos hend, headerOn_of hlive hparser]
  rfl

/-- Settles O10: by the parser's move at the fifth byte, in a response, and at the release. -/
theorem headerArrivalAndFrameEnd : Obligations.HeaderArrivalAndFrameEnd := by
  unfold Obligations.HeaderArrivalAndFrameEnd
  refine ⟨fun n h s hlive hparser => ⟨fun hcheck hwrite => ?_, fun hbad => ?_⟩, fun n h s hcheck => ?_, fun n s hlive => ?_,
    fun n r bytes k s => ⟨rfl, rfl⟩, fun n s hselected hparser => ?_⟩
  · rw [exec_hcheckArrival_of_write hlive hparser (by rw [hwrite, Bool.or_true]), if_pos ((valid_iff h).mpr hcheck)]
  · have hinvalid : ¬ h.valid = true := mt (valid_iff h).mp hbad
    rw [exec_hcheckArrival_of_write hlive hparser (by simp [hinvalid]), if_neg hinvalid]
  · have hvalid := (valid_iff h).mpr hcheck
    refine ⟨fun hc => ?_, fun hc => ?_, fun hc => ?_, fun hc => ?_, fun hc => ?_, fun hc => ?_, fun hcode hwrite => ?_⟩
    · rw [exec_hcheckArrival_of_valid hvalid (by rw [hc]; decide), hc]
      rfl
    · rw [exec_hcheckArrival_of_valid hvalid (by rw [hc]; decide), hc]
      rfl
    · rw [exec_hcheckArrival_of_valid hvalid (by rw [hc]; decide), hc]
      rfl
    · rw [exec_hcheckArrival_of_valid hvalid (by rw [hc]; decide), hc]
      rfl
    · rw [exec_hcheckArrival_of_valid hvalid (by rw [hc]; decide), hc]
      rfl
    · rw [exec_hcheckArrival_of_valid hvalid (by rw [hc]; decide), hc]
      rfl
    · have hne (b : Byte) (hb : 0x10 ≤ b.toNat ∧ b.toNat ≤ 0x15) : h.code ≠ b := by
        rintro rfl
        exact hcode hb
      rw [exec_hcheckArrival_of_valid hvalid hwrite, if_neg (hne 0x10 (by decide)), if_neg (hne 0x11 (by decide)),
        if_neg (hne 0x12 (by decide)), if_neg (hne 0x13 (by decide)), if_neg (hne 0x14 (by decide)),
        if_neg (hne 0x15 (by decide))]
      rfl
  · rw [passTime_port, if_pos hlive]
    by_cases hrespond : (s.port n).parser = .respond
    · rw [if_pos hrespond]
      unfold PortState.clockOut
      rw [hrespond]
      dsimp only
      split
      · next hmore => simp [PortState.countBytes, hrespond]
      · rfl
    · rw [if_neg hrespond, clockOut_of_ne _ hrespond]
  · have hplain : s.plainReleaseOn n = true := by
      unfold State.plainReleaseOn
      rw [hselected, Bool.true_and]
      rcases hparser with h | h | h | h | h <;> simp [h]
    change ifDue (s.plainReleaseOn n) s _ = _
    rw [hplain]
    rfl

/-! ## Discarded frames (R164) -/

theorem expectedAfter_of_not {h : FrameHeader} {bytes : List Byte} {k : Nat}
    (hbad : k ≠ 0
      ∨ bytes.length ≠ (if h.code = 0x20 then 4 * h.p2.toNat + 1 else if h.code = 0x30 then 13
                        else if h.code = 0x32 then 17 else 0)
      ∨ ((h.code = 0x20 ∨ h.code = 0x30 ∨ h.code = 0x32) ∧ bytes.getLast? ≠ some (crc8 bytes.dropLast))) :
    h.whole bytes k = false := by
  unfold FrameHeader.whole FrameHeader.expectedAfter FrameHeader.hasPayload
  rcases hbad with hk | hlength | ⟨hcode, hcheck⟩
  · simp [hk]
  · rw [decide_eq_false hlength]
    simp
  · have hpayload : ([0x20, 0x30, 0x32] : List Byte).contains h.code = true := by
      rcases hcode with hc | hc | hc <;> rw [hc] <;> decide
    rw [hpayload]
    simp [hcheck]

/-- Settles O11: each frame that ends short, bad or not whole is discarded in the one way. -/
theorem discardedFramesSetFrameCause : Obligations.DiscardedFramesSetFrameCause := by
  unfold Obligations.DiscardedFramesSetFrameCause
  refine fun n s hlive => ⟨fun bytes k hbad => ?_, fun h hparser hcheck hread hwrite => ?_⟩
  · have hdiscard : s.discardOn n bytes k = true := by
      unfold State.discardOn
      rw [hlive, Bool.true_and]
      rcases hbad with ⟨hparser, hshort, hsome⟩ | hparser | ⟨h, hparser, hnot⟩
      · rw [hparser]
        rcases hsome with hbytes | hbits
        · simp [hshort, hbytes]
        · simp [hshort, hbits]
      · rw [hparser]
      · rw [hparser]
        simp [expectedAfter_of_not hnot]
    change ifDue (s.discardOn n bytes k) s _ = _
    rw [hdiscard]
    rfl
  · have hdue : (s.headerOn n && h.valid && !readCodes.contains h.code && !writeCodes.contains h.code) = true := by
      rw [headerOn_of hlive hparser, (valid_iff h).mpr hcheck, hread, hwrite]
      rfl
    change ifDue (s.headerOn n && h.valid && !readCodes.contains h.code && !writeCodes.contains h.code) s _ = _
    rw [hdue]
    rfl

/-! ## The check byte (R160) -/

theorem crcBit_eq (reg : Byte) (bit : Bool) :
    crcBit reg bit = if (reg.getLsbD 7 ^^ bit) = true then (reg <<< 1) ^^^ 0x07#8 else reg <<< 1 := rfl

/-- A register that takes its own value as data returns to zero. -/
theorem crcByte_self (reg : Byte) : crcByte reg reg = 0 := by
  revert reg
  decide +kernel

/-- Settles O12: the register step by definition, and the residue of a run with its check byte. -/
theorem checkByteIsCrc8 : Obligations.CheckByteIsCrc8 := by
  unfold Obligations.CheckByteIsCrc8
  have hsnoc (bytes : List Byte) (b : Byte) : crc8 (bytes ++ [b]) = crcByte (crc8 bytes) b := by simp [crc8]
  refine ⟨by decide, by decide +kernel, by decide +kernel, hsnoc, fun reg b => rfl, fun bytes => ?_⟩
  rw [withCheck, hsnoc, crcByte_self]

end Sys2Proof.Machine

/-! # Read requests (R13, R14, R64, R79, R126, R167, R187) -/

namespace Sys2Proof.Machine

/-! ## Requests with a header on the port -/

section Reads

variable {n : Port} {s : State} (hlive : s.live = true) (hparser : (s.port n).parser = .header)
include hlive hparser

theorem exec_status : exec (.status n) s = .next (s.respond n .ok (s.statusBytes n)) := by
  change ifDue (s.headerOn n) s _ = _
  rw [headerOn_of hlive hparser]
  rfl

theorem exec_take :
    exec (.take n) s = .next (match s.notReady, (s.port n).queue with
      | some x, _ => s.respond n x (zeros 8)
      | none, [] => s.respond n .ok (emptyEntryBytes s.tb.cycleNumber)
      | none, e :: rest => (s.modPort n fun p => { p with queue := rest }).respond n .ok (entryBytes e)) := by
  change ifDue (s.headerOn n) s _ = _
  rw [headerOn_of hlive hparser]
  rfl

end Reads

/-! ## STATUS (R167) -/

/-- Settles O13: the codes of R189 by evaluation, the block byte by byte. -/
theorem statusBlockReportsThePort : Obligations.StatusBlockReportsThePort := by
  unfold Obligations.StatusBlockReportsThePort
  refine ⟨by decide, fun n s hlive hparser => ?_⟩
  rw [exec_status hlive hparser]
  unfold State.statusBytes
  dsimp only
  generalize (s.lane (laneOf n)).hold = hold
  cases hold with
  | idle => rfl
  | waiting r => rfl
  | staging r i => rfl
  | fetching r i b => rfl

/-! ## TAKE (R64) -/

/-- Settles O14: by the state and the queue that TAKE finds. -/
theorem takeReturnsTheHeadEntry : Obligations.TakeReturnsTheHeadEntry := by
  unfold Obligations.TakeReturnsTheHeadEntry
  refine fun n s hlive hparser => ⟨fun hinit => ?_, fun hready hempty => ?_, fun e rest hready hqueue => ?_⟩
  · rw [exec_take hlive hparser, notReady_of_init hinit]
    rfl
  · rw [exec_take hlive hparser, notReady_of_ne_init hready, hempty]
    rfl
  · rw [exec_take hlive hparser, notReady_of_ne_init hready, hqueue]
    cases e <;> rfl

/-! ## READ WINDOW (R79) -/

theorem exec_readWindow {n : Port} {offset count : Byte} {s : State} (hlive : s.live = true)
    (hparser : (s.port n).parser = .header) :
    exec (.readWindow n offset count) s
      = .next (match (s.notReady.or (refuseIf (!windowRangeOk offset count) .range)).or
          (refuseIf ((s.port n).desc.state = .inProgress) .windowBusy) with
        | some x => s.respond n x (readWindowZeros count)
        | none => s.respond n .ok (descBytes (s.port n).desc
            ++ windowBytes (s.port n).readWindow offset.toNat count.toNat)) := by
  change ifDue (s.headerOn n) s _ = _
  rw [headerOn_of hlive hparser]
  rfl

/-- Words of a window, read one by one (R79). -/
theorem windowBytes_eq (w : Vector Word 32) {offset count : Nat} (h : offset + count ≤ 32) :
    windowBytes w offset count = (List.range count).flatMap fun i => be32 (w.toList.getD (offset + i) 0) := by
  have hwords : (w.toList.drop offset).take count = (List.range count).map fun i => w.toList.getD (offset + i) 0 := by
    apply List.ext_getElem
    · simp
      omega
    · intro i hi hi'
      simp at hi hi'
      have hlt : offset + i < 32 := by omega
      simp [List.getD_eq_getElem?_getD, Vector.getElem?_eq_getElem hlt]
  rw [windowBytes, hwords, List.flatMap_map]

theorem readWindowZeros_eq (count : Byte) :
    readWindowZeros count = List.replicate (7 + (if 1 ≤ count.toNat ∧ count.toNat ≤ 32 then 4 * count.toNat else 0)) 0 := by
  simp [readWindowZeros, zeros]

/-- Settles O15: by the first check that refuses. -/
theorem readWindowReturnsDescriptorAndWords : Obligations.ReadWindowReturnsDescriptorAndWords := by
  unfold Obligations.ReadWindowReturnsDescriptorAndWords
  refine fun n offset count s hlive hparser => ⟨fun hinit => ?_, fun hready hrange => ?_, fun hready hcount hsum => ?_⟩
  · rw [exec_readWindow hlive hparser, notReady_of_init hinit, Option.some_or, Option.some_or, readWindowZeros_eq]
  · have hbad : windowRangeOk offset count = false := by
      rw [← Bool.not_eq_true, windowRangeOk_iff]
      exact hrange
    rw [exec_readWindow hlive hparser, notReady_of_ne_init hready, hbad, readWindowZeros_eq]
    rfl
  · have hok : windowRangeOk offset count = true := by
      rw [windowRangeOk_iff]
      omega
    have hle : count.toNat ≤ 32 := by omega
    refine ⟨fun hbusy => ?_, fun hfree => ?_⟩
    · rw [exec_readWindow hlive hparser, notReady_of_ne_init hready, hok, hbusy, readWindowZeros_eq, if_pos ⟨hcount, hle⟩]
      rfl
    · rw [exec_readWindow hlive hparser, notReady_of_ne_init hready, hok, decide_eq_false hfree, ← windowBytes_eq _ hsum]
      rfl

/-! ## READ RECORD, READ HEADER and READ BALLOT (R13, R14, R126) -/

section Table

variable {n : Port} {s : State} (hlive : s.live = true) (hparser : (s.port n).parser = .header)
include hlive hparser

theorem exec_readRecord (record image : Byte) :
    exec (.readRecord n record image) s = .next (match s.notReady, recNo? record, imageSel? image with
      | some x, _, _ => s.respond n x (zeros 22)
      | none, some r, some i => s.respond n .ok (s.recordBytes i r)
      | none, _, _ => s.respond n .range (zeros 22)) := by
  change ifDue (s.headerOn n) s _ = _
  rw [headerOn_of hlive hparser]
  rfl

theorem exec_readHeader (image : Byte) :
    exec (.readHeader n image) s = .next (match s.notReady, imageSel? image with
      | some x, _ => s.respond n x (zeros 16)
      | none, some i => s.respond n .ok (headerBytes (s.image i).header)
      | none, none => s.respond n .range (zeros 16)) := by
  change ifDue (s.headerOn n) s _ = _
  rw [headerOn_of hlive hparser]
  rfl

theorem exec_readBallot :
    exec (.readBallot n) s = .next (match s.notReady with
      | some x => s.respond n x (zeros 12)
      | none => s.respond n .ok s.ballotBytes) := by
  change ifDue (s.headerOn n) s _ = _
  rw [headerOn_of hlive hparser]
  rfl

end Table

theorem recNo?_eq_none {record : Byte} (h : 128 ≤ record.toNat) : recNo? record = none := dif_neg (Nat.not_lt_of_le h)

theorem imageSel?_eq_none {image : Byte} (h : 2 ≤ image.toNat) : imageSel? image = none := by
  have hne (b : Byte) (hb : b.toNat < 2) : image ≠ b := by
    rintro rfl
    omega
  rw [imageSel?, if_neg (hne 0x00 (by decide)), if_neg (hne 0x01 (by decide))]

/-- Settles O16: by the first check that refuses, and byte by byte for the ballot block. -/
theorem readRequestsReturnTheTableAndTheBallot : Obligations.ReadRequestsReturnTheTableAndTheBallot := by
  unfold Obligations.ReadRequestsReturnTheTableAndTheBallot
  refine ⟨fun n s hlive hparser => ⟨fun record image => ⟨fun hinit => ?_, fun hready hrange => ?_, fun r hready hr => ⟨?_, ?_⟩⟩,
    fun image => ⟨fun hinit => ?_, fun hready hrange => ?_, ?_, ?_⟩⟩, fun n s hlive hparser => ⟨fun hinit => ?_, fun hready => ?_⟩⟩
  · rw [exec_readRecord hlive hparser, notReady_of_init hinit]
    rfl
  · rw [exec_readRecord hlive hparser, notReady_of_ne_init hready]
    rcases hrange with hrecord | himage
    · rw [recNo?_eq_none hrecord]
      rfl
    · rw [imageSel?_eq_none himage]
      cases recNo? record <;> rfl
  · rintro rfl
    rw [exec_readRecord hlive hparser, notReady_of_ne_init hready, recNo?_of_toNat_eq hr]
    rfl
  · rintro rfl
    rw [exec_readRecord hlive hparser, notReady_of_ne_init hready, recNo?_of_toNat_eq hr]
    rfl
  · rw [exec_readHeader hlive hparser, notReady_of_init hinit]
    rfl
  · rw [exec_readHeader hlive hparser, notReady_of_ne_init hready, imageSel?_eq_none hrange]
    rfl
  · rintro hready rfl
    rw [exec_readHeader hlive hparser, notReady_of_ne_init hready]
    rfl
  · rintro hready rfl
    rw [exec_readHeader hlive hparser, notReady_of_ne_init hready]
    rfl
  · rw [exec_readBallot hlive hparser, notReady_of_init hinit]
    rfl
  · rw [exec_readBallot hlive hparser, notReady_of_ne_init hready]
    unfold State.ballotBytes State.openBallotBytes
    cases s.ballot.current with
    | none => rfl
    | some b => rfl

end Sys2Proof.Machine

/-! # The layouts of the record table (R3, R5, R9, R187) -/

namespace Sys2Proof.Machine

/-! ## Bytes of numbers (R184) -/

@[simp] theorem byteOf_toNat (b : Byte) : byteOf b.toNat = b := BitVec.ofNat_toNat ..

theorem toNat_byteOf {k : Nat} (h : k < 256) : (byteOf k).toNat = k := by
  rw [byteOf, BitVec.toNat_ofNat]
  omega

theorem be16OfNat_eq (k : Nat) : be16OfNat k = [byteOf (k / 256), byteOf k] := by
  simp only [be16OfNat, be16, byteOf, List.cons.injEq, and_true]
  constructor <;> apply BitVec.eq_of_toNat_eq
  · simp only [BitVec.extractLsb'_toNat, BitVec.toNat_ofNat, Nat.shiftRight_eq_div_pow]
    omega
  · simp only [BitVec.extractLsb'_toNat, BitVec.toNat_ofNat, Nat.shiftRight_eq_div_pow]
    omega

theorem natOfBe16_byteOf {k : Nat} (h : k < 65536) : natOfBe16 (byteOf (k / 256)) (byteOf k) = k := by
  simp only [natOfBe16, byteOf, BitVec.toNat_ofNat]
  omega

theorem be16OfNat_natOfBe16 (hi lo : Byte) : be16OfNat (natOfBe16 hi lo) = [hi, lo] := by
  have hhi := hi.isLt
  have hlo := lo.isLt
  rw [be16OfNat_eq]
  simp only [natOfBe16, byteOf, List.cons.injEq, and_true]
  constructor <;> apply BitVec.eq_of_toNat_eq
  · rw [BitVec.toNat_ofNat]
    omega
  · rw [BitVec.toNat_ofNat]
    omega

/-! ## The byte of two flags, and the port set in a byte -/

theorem flagsByte_eq (a b : Bool) :
    boolByte a ||| (boolByte b <<< 1) = byteOf ((if a = true then 1 else 0) + (if b = true then 2 else 0)) := by
  revert a b
  decide

theorem flagsByte_getLsbD {b : Byte} (h : b.toNat < 4) :
    boolByte (b.getLsbD 0) ||| (boolByte (b.getLsbD 1) <<< 1) = b := by
  have hcases : b = 0 ∨ b = 1 ∨ b = 2 ∨ b = 3 := by bv_omega
  rcases hcases with rfl | rfl | rfl | rfl <;> decide

theorem flagsByte_flags (a b : Bool) :
    (boolByte a ||| (boolByte b <<< 1)).toNat < 4 ∧ (boolByte a ||| (boolByte b <<< 1)).getLsbD 0 = a
      ∧ (boolByte a ||| (boolByte b <<< 1)).getLsbD 1 = b := by
  revert a b
  decide

theorem setWidth_setByte {b : Byte} (h : b.toNat < 16) : (b.setWidth 4).setWidth 8 = b := by
  apply BitVec.eq_of_toNat_eq
  simp only [BitVec.toNat_setWidth]
  omega

theorem toNat_setByte (v : PortSet) : (v.setWidth 8 : Byte).toNat < 16 := by
  have hv := v.isLt
  rw [BitVec.toNat_setWidth]
  omega

theorem setByte_setWidth (v : PortSet) : (v.setWidth 8 : Byte).setWidth 4 = v := by
  apply BitVec.eq_of_toNat_eq
  have hv := v.isLt
  simp only [BitVec.toNat_setWidth]
  omega

/-! ## Values in range (R3, R5, R9) -/

theorem RecordDef.inRange_iff (d : RecordDef) : d.inRange = true ↔
    1 ≤ d.length ∧ d.length ≤ 32 ∧ d.base ≤ 8191 ∧ d.point ≤ 49999 ∧ (∃ k ≤ 7, d.period = 2 ^ k) ∧ d.phase < d.period
      ∧ 1 ≤ d.missLimit ∧ d.missLimit ≤ 15 ∧ d.base + 3 * d.length ≤ 8192 ∧ d.subscribers.getLsbD d.owner.val = false := by
  have hperiod : d.period ∈ [1, 2, 4, 8, 16, 32, 64, 128] ↔ ∃ k ≤ 7, d.period = 2 ^ k := by
    constructor
    · intro h
      obtain ⟨i, hi, heq⟩ := List.getElem_of_mem h
      simp only [List.length_cons, List.length_nil] at hi
      exact ⟨i, by omega, by interval_cases i <;> exact heq.symm⟩
    · rintro ⟨k, hk, heq⟩
      rw [heq]
      interval_cases k <;> decide
  rw [← hperiod]
  simp [RecordDef.inRange, and_assoc]

theorem SchedHeader.inRange_iff (h : SchedHeader) : h.inRange = true ↔
    (200 ≤ h.cycleTicks ∧ h.cycleTicks ≤ 50000) ∧ (2 ≤ h.acqTol ∧ h.acqTol ≤ 255) ∧ (1 ≤ h.lockTol ∧ h.lockTol ≤ 255)
      ∧ (1 ≤ h.nAcq ∧ h.nAcq ≤ 15) ∧ (1 ≤ h.nLock ∧ h.nLock ≤ 63)
      ∧ (1 ≤ h.holdoverLimit ∧ h.holdoverLimit ≤ 255) ∧ (4 ≤ h.syncWin ∧ h.syncWin ≤ 1023)
      ∧ (1 ≤ h.ballotTime ∧ h.ballotTime ≤ 255) := by
  simp [SchedHeader.inRange, and_assoc]

/-! ## Definitions (R187) -/

theorem defBytes_some (d : RecordDef) : defBytes (some d) =
    [1, byteOf d.owner.val, d.subscribers.setWidth 8, byteOf d.length, byteOf (d.base / 256), byteOf d.base,
     byteOf (d.point / 256), byteOf d.point, byteOf d.period, byteOf d.phase, byteOf d.missLimit,
     boolByte d.publishNotes ||| (boolByte d.missNotes <<< 1)] := by
  simp only [defBytes, be16OfNat_eq]
  rfl

theorem toList12 (p : Vector Byte 12) :
    p.toList = [p[0], p[1], p[2], p[3], p[4], p[5], p[6], p[7], p[8], p[9], p[10], p[11]] := by
  apply List.ext_getElem
  · simp
  · intro i hi _
    simp only [Vector.length_toList] at hi
    interval_cases i <;> simp

theorem toList16 (p : Vector Byte 16) :
    p.toList = [p[0], p[1], p[2], p[3], p[4], p[5], p[6], p[7], p[8], p[9], p[10], p[11], p[12], p[13], p[14], p[15]] := by
  apply List.ext_getElem
  · simp
  · intro i hi _
    simp only [Vector.length_toList] at hi
    interval_cases i <;> simp

/-- What R9 and R185 accept, field by field. -/
theorem parseDef_eq_some {p : Vector Byte 12} {d : RecordDef} : parseDef p = some d ↔
    (∃ h : p[1].toNat < 4, d =
      { owner := ⟨p[1].toNat, h⟩, subscribers := p[2].setWidth 4, length := p[3].toNat, base := natOfBe16 p[4] p[5],
        point := natOfBe16 p[6] p[7], period := p[8].toNat, phase := p[9].toNat, missLimit := p[10].toNat,
        publishNotes := p[11].getLsbD 0, missNotes := p[11].getLsbD 1 })
      ∧ p[0] = 1 ∧ p[2].toNat < 16 ∧ p[11].toNat < 4 ∧ d.inRange = true := by
  unfold parseDef
  split
  · next hport =>
    constructor
    · intro h
      dsimp only at h
      split at h
      · next hall =>
        obtain rfl := Option.some.inj h
        simp only [Bool.and_eq_true, decide_eq_true_eq] at hall
        obtain ⟨⟨⟨hdefined, hset⟩, hflags⟩, hrange⟩ := hall
        exact ⟨⟨hport, rfl⟩, hdefined, hset, hflags, hrange⟩
      · nomatch h
    · rintro ⟨⟨_, rfl⟩, hdefined, hset, hflags, hrange⟩
      dsimp only
      rw [if_pos]
      simp only [hdefined, hset, hflags, hrange, decide_true, Bool.and_self]
  · next hport =>
    constructor
    · nofun
    · rintro ⟨⟨h, _⟩, _⟩
      exact absurd h hport

theorem defBytes_of_parseDef {p : Vector Byte 12} {d : RecordDef} (h : parseDef p = some d) :
    p.toList = defBytes (some d) := by
  obtain ⟨⟨hport, rfl⟩, hdefined, hset, hflags, _⟩ := parseDef_eq_some.mp h
  simp only [defBytes, be16OfNat_natOfBe16, byteOf_toNat, setWidth_setByte hset, flagsByte_getLsbD hflags]
  rw [toList12, hdefined]
  rfl

theorem parseDef_of_defBytes {p : Vector Byte 12} {d : RecordDef} (hrange : d.inRange = true)
    (h : p.toList = defBytes (some d)) : parseDef p = some d := by
  obtain ⟨hl, hl', hb, hp, ⟨k, hk, hperiod⟩, hphase, hm, hm', _, _⟩ := d.inRange_iff.mp hrange
  have hpow : d.period ≤ 2 ^ 7 := hperiod ▸ Nat.pow_le_pow_right (by omega) hk
  have hport := d.owner.isLt
  obtain ⟨hsmall, hpub, hmiss⟩ := flagsByte_flags d.publishNotes d.missNotes
  rw [toList12, defBytes_some] at h
  simp only [List.cons.injEq, and_true] at h
  obtain ⟨h0, h1, h2, h3, h4, h5, h6, h7, h8, h9, h10, h11⟩ := h
  have howner : p[1].toNat = d.owner.val := by
    rw [h1]
    exact toNat_byteOf (by omega)
  refine parseDef_eq_some.mpr ⟨⟨by omega, ?_⟩, h0, ?_, ?_, hrange⟩
  · obtain ⟨owner, subscribers, length, base, point, period, phase, missLimit, publishNotes, missNotes⟩ := d
    simp only at *
    simp only [howner, h2, h3, h4, h5, h6, h7, h8, h9, h10, h11, hpub, hmiss, setByte_setWidth,
      natOfBe16_byteOf (show base < 65536 by omega), natOfBe16_byteOf (show point < 65536 by omega),
      toNat_byteOf (show length < 256 by omega), toNat_byteOf (show period < 256 by omega),
      toNat_byteOf (show phase < 256 by omega), toNat_byteOf (show missLimit < 256 by omega)]
  · rw [h2]
    exact toNat_setByte _
  · rw [h11]
    exact hsmall

/-! ## Headers (R187) -/

theorem headerBytes_eq (h : SchedHeader) : headerBytes h =
    [byteOf h.mode.code, byteOf (h.cycleTicks / 256), byteOf h.cycleTicks, byteOf h.acqTol, byteOf h.lockTol,
     byteOf h.nAcq, byteOf h.nLock, byteOf h.holdoverLimit, byteOf (h.syncWin / 256), byteOf h.syncWin,
     byteOf h.ballotTime, 0, 0, 0, 0, 0] := by
  simp only [headerBytes, be16OfNat_eq]
  rfl

theorem mode?_eq_some {b : Byte} {m : Mode} : mode? b = some m ↔ b = byteOf m.code := by
  unfold mode?
  constructor
  · intro h
    split at h
    · next hb =>
      cases h
      exact hb
    · split at h
      · next hb =>
        cases h
        exact hb
      · nomatch h
  · rintro rfl
    cases m <;> rfl

/-- What R11 and R185 accept, field by field. -/
theorem parseHeader_eq_some {p : Vector Byte 16} {h : SchedHeader} : parseHeader p = some h ↔
    (∃ m, mode? p[0] = some m ∧ h =
      { mode := m, cycleTicks := natOfBe16 p[1] p[2], acqTol := p[3].toNat, lockTol := p[4].toNat, nAcq := p[5].toNat,
        nLock := p[6].toNat, holdoverLimit := p[7].toNat, syncWin := natOfBe16 p[8] p[9], ballotTime := p[10].toNat })
      ∧ (p[11] = 0 ∧ p[12] = 0 ∧ p[13] = 0 ∧ p[14] = 0 ∧ p[15] = 0) ∧ h.inRange = true := by
  unfold parseHeader
  split
  · next hnone =>
    constructor
    · nofun
    · rintro ⟨⟨m, hm, _⟩, _⟩
      rw [hnone] at hm
      nomatch hm
  · next m hm =>
    constructor
    · intro h
      dsimp only at h
      split at h
      · next hall =>
        obtain rfl := Option.some.inj h
        simp only [Bool.and_eq_true, decide_eq_true_eq] at hall
        obtain ⟨⟨⟨⟨⟨h11, h12⟩, h13⟩, h14⟩, h15⟩, hrange⟩ := hall
        exact ⟨⟨m, hm, rfl⟩, ⟨h11, h12, h13, h14, h15⟩, hrange⟩
      · nomatch h
    · rintro ⟨⟨m', hm', rfl⟩, ⟨h11, h12, h13, h14, h15⟩, hrange⟩
      obtain rfl := Option.some.inj (hm.symm.trans hm')
      dsimp only
      rw [if_pos]
      simp [h11, h12, h13, h14, h15, hrange]

theorem headerBytes_of_parseHeader {p : Vector Byte 16} {h : SchedHeader} (hp : parseHeader p = some h) :
    p.toList = headerBytes h := by
  obtain ⟨⟨m, hm, rfl⟩, ⟨h11, h12, h13, h14, h15⟩, _⟩ := parseHeader_eq_some.mp hp
  simp only [headerBytes, be16OfNat_natOfBe16, byteOf_toNat]
  rw [toList16, h11, h12, h13, h14, h15, mode?_eq_some.mp hm]
  rfl

theorem parseHeader_of_headerBytes {p : Vector Byte 16} {h : SchedHeader} (hrange : h.inRange = true)
    (hp : p.toList = headerBytes h) : parseHeader p = some h := by
  obtain ⟨hcycle, hacq, hlock, hnacq, hnlock, hhold, hsync, hballot⟩ := h.inRange_iff.mp hrange
  rw [toList16, headerBytes_eq] at hp
  simp only [List.cons.injEq, and_true] at hp
  obtain ⟨h0, h1, h2, h3, h4, h5, h6, h7, h8, h9, h10, h11, h12, h13, h14, h15⟩ := hp
  refine parseHeader_eq_some.mpr ⟨⟨h.mode, mode?_eq_some.mpr h0, ?_⟩, ⟨h11, h12, h13, h14, h15⟩, hrange⟩
  obtain ⟨mode, cycleTicks, acqTol, lockTol, nAcq, nLock, holdoverLimit, syncWin, ballotTime⟩ := h
  simp only at *
  simp only [h1, h2, h3, h4, h5, h6, h7, h8, h9, h10, natOfBe16_byteOf (show cycleTicks < 65536 by omega),
    natOfBe16_byteOf (show syncWin < 65536 by omega), toNat_byteOf (show acqTol < 256 by omega),
    toNat_byteOf (show lockTol < 256 by omega), toNat_byteOf (show nAcq < 256 by omega),
    toNat_byteOf (show nLock < 256 by omega), toNat_byteOf (show holdoverLimit < 256 by omega),
    toNat_byteOf (show ballotTime < 256 by omega)]

/-! ## Round trips -/

theorem parseDef_iff (p : Vector Byte 12) (d : RecordDef) :
    parseDef p = some d ↔ d.inRange = true ∧ p.toList = defBytes (some d) :=
  ⟨fun h => ⟨parseDef_inRange h, defBytes_of_parseDef h⟩, fun ⟨hrange, h⟩ => parseDef_of_defBytes hrange h⟩

theorem parseHeader_iff (p : Vector Byte 16) (h : SchedHeader) :
    parseHeader p = some h ↔ h.inRange = true ∧ p.toList = headerBytes h :=
  ⟨fun hp => ⟨parseHeader_inRange hp, headerBytes_of_parseHeader hp⟩,
    fun ⟨hrange, hp⟩ => parseHeader_of_headerBytes hrange hp⟩

theorem runtimeBytes_some (rt : Runtime) : runtimeBytes (some rt) =
    [rt.version.extractLsb' 8 8, rt.version.extractLsb' 0 8, byteOf rt.health.code, byteOf rt.missCount, rt.lastCycle,
     byteOf (rt.staging.code + (if rt.stageWaiting = true then 128 else 0)),
     byteOf (rt.roles[0].code + 4 * rt.roles[1].code + 16 * rt.roles[2].code),
     byteOf rt.pins[0], byteOf rt.pins[1], byteOf rt.pins[2]] := by
  have hstaging : byteOf rt.staging.code ||| (boolByte rt.stageWaiting <<< 7)
      = byteOf (rt.staging.code + (if rt.stageWaiting = true then 128 else 0)) := by
    generalize rt.staging = st
    generalize rt.stageWaiting = w
    revert w
    cases st <;> decide
  rw [runtimeBytes, hstaging]
  rfl

/-- Settles O22: a byte and a number below 256 give each other back, and so do the two bytes of a number below 65536. -/
theorem payloadLayoutsRoundTrip : Obligations.PayloadLayoutsRoundTrip := by
  unfold Obligations.PayloadLayoutsRoundTrip
  refine ⟨⟨parseDef_iff, parseHeader_iff⟩, ⟨RecordDef.inRange_iff, SchedHeader.inRange_iff⟩, rfl, fun d => ?_, rfl,
    runtimeBytes_some, headerBytes_eq⟩
  rw [defBytes_some, flagsByte_eq]

end Sys2Proof.Machine

/-! # Attention requests and shadow edits (R2, R8 to R12, R69, R70) -/

namespace Sys2Proof.Machine

/-! ## Whole frames -/

section Frames

variable {s : State} {n : Port} {h : FrameHeader} {params : List Byte} (hl : s.live = true)
  (hp : (s.port n).parser = .payload h) (hparams : h.params.take params.length = params)
include hl hp hparams

/-- A kind without payload, with any number of the header's parameters. -/
theorem writeFrameOn_nil (hno : h.hasPayload = false) : s.writeFrameOn n h.code params [] = true := by
  rw [writeFrameOn_eq s n _ _ hl hp, whole_nil_of_no_payload hno, hparams]
  simp

/-- A kind with a payload, closed by its check byte. -/
theorem writeFrameOn_payload {payload : List Byte} (hlen : h.expectedAfter = payload.length + 1) :
    s.writeFrameOn n h.code params (payload ++ [crc8 payload]) = true := by
  rw [writeFrameOn_eq s n _ _ hl hp, hparams]
  simp [FrameHeader.whole, hlen]

end Frames

/-- A write kind whose frame is whole ends with its first refusal or takes effect (R163). -/
theorem writeKind_of_frame {s : State} {n : Port} {code : Byte} {params after : List Byte} (refusal : Option Result)
    (e : State) (hframe : s.writeFrameOn n code params after = true) :
    writeKind s n code params after refusal e
      = .next (match refusal with
        | some r => s.endFrame n r after.length
        | none => e.endFrame n .ok after.length) := by
  change ifDue (s.writeFrameOn n code params after) s _ = _
  rw [hframe]
  rfl

/-! ## ACKNOWLEDGE and SET ATTENTION (R69, R70) -/

theorem causeSet?_of_lt {b : Byte} (h : b.toNat < 32) : causeSet? b = some (b.setWidth 5) := if_pos h

theorem causeSet?_of_ge {b : Byte} (h : 32 ≤ b.toNat) : causeSet? b = none := if_neg h.not_gt

theorem noteMask?_of_lt {b : Byte} (h : b.toNat < 16) : noteMask? b = some (b.setWidth 4) := if_pos h

theorem watermarkOk_iff {w : Byte} : watermarkOk w = true ↔ 1 ≤ w.toNat ∧ w.toNat ≤ 24 := by
  simp [watermarkOk, Config.queueCapacity]

theorem attentionRange_eq (a b c : Byte) :
    (!watermarkOk b || (causeSet? a).isNone || (noteMask? c).isNone)
      = !decide (a.toNat < 32 ∧ 1 ≤ b.toNat ∧ b.toNat ≤ 24 ∧ c.toNat < 16) := by
  unfold causeSet? noteMask?
  rw [Bool.eq_iff_iff]
  by_cases ha : a.toNat < 32 <;> by_cases hc : c.toNat < 16 <;> simp [ha, hc, ← watermarkOk_iff]

/-- The causes a set names are bits 2 to 4 of its byte. -/
theorem clearCauses_setWidth (p : PortState) (a : Byte) :
    p.clearCauses (a.setWidth 5) = { p with
      overflow := p.overflow && !a.getLsbD 2, xfer := p.xfer && !a.getLsbD 3, frame := p.frame && !a.getLsbD 4 } := by
  simp [PortState.clearCauses]

section Attention

variable {n : Port} {a b c hc : Byte} {s : State} (hl : s.live = true)
include hl

theorem exec_acknowledge (hp : (s.port n).parser = .payload ⟨0x23, a, b, c, hc⟩) :
    exec (.acknowledge n a) s
      = .next (match s.notReady.or (refuseIf (causeSet? a).isNone .range) with
        | some r => s.endFrame n r 0
        | none => (match causeSet? a with
          | some set => s.modPort n (·.clearCauses set)
          | none => s).endFrame n .ok 0) :=
  writeKind_of_frame _ _ (writeFrameOn_nil (params := [a]) hl hp rfl rfl)

theorem exec_setAttention (hp : (s.port n).parser = .payload ⟨0x24, a, b, c, hc⟩) :
    exec (.setAttention n a b c) s
      = .next (match s.notReady.or
          (refuseIf (!watermarkOk b || (causeSet? a).isNone || (noteMask? c).isNone) .range) with
        | some r => s.endFrame n r 0
        | none => (match causeSet? a, noteMask? c with
          | some e, some m => s.modPort n fun p => { p with enables := e, watermark := b.toNat, noteMask := m }
          | _, _ => s).endFrame n .ok 0) :=
  writeKind_of_frame _ _ (writeFrameOn_nil (params := [a, b, c]) hl hp rfl rfl)

end Attention

/-- Settles O20: by the first check that refuses. -/
theorem attentionRequestsChangeCauses : Obligations.AttentionRequestsChangeCauses := by
  unfold Obligations.AttentionRequestsChangeCauses
  refine fun n a b c hc s hl => ⟨fun hp => ?acknowledge, fun hp => ?setAttention⟩
  case acknowledge =>
    rw [exec_acknowledge hl hp]
    refine ⟨fun hinit => ?_, fun hready hrange => ?_, fun hready hset => ?_⟩
    · rw [notReady_of_init hinit, Option.some_or]
    · rw [notReady_of_ne_init hready, causeSet?_of_ge hrange]
      rfl
    · rw [notReady_of_ne_init hready, causeSet?_of_lt hset]
      exact congrArg (fun p => Host.Outcome.next ((s.withPort n p).endFrame n .ok 0)) (clearCauses_setWidth (s.port n) a)
  case setAttention =>
    rw [exec_setAttention hl hp, attentionRange_eq]
    refine ⟨fun hinit => ?_, fun hready hrange => ?_, fun hready ha hb hb' hmask => ?_⟩
    · rw [notReady_of_init hinit, Option.some_or]
    · rw [notReady_of_ne_init hready, decide_eq_false hrange]
      rfl
    · rw [notReady_of_ne_init hready, decide_eq_true ⟨ha, hb, hb', hmask⟩, causeSet?_of_lt ha, noteMask?_of_lt hmask]
      rfl

/-! ## Shadow edits (R8 to R12) -/

/-- The layout of no value in range is refused (R9). -/
theorem parseDef_eq_none {p : Vector Byte 12} (h : ∀ d : RecordDef, d.inRange = true → p.toList ≠ defBytes (some d)) :
    parseDef p = none := by
  rw [Option.eq_none_iff_forall_ne_some]
  intro d hd
  obtain ⟨hrange, hbytes⟩ := (parseDef_iff p d).mp hd
  exact h d hrange hbytes

theorem parseHeader_eq_none {p : Vector Byte 16} (h : ∀ k : SchedHeader, k.inRange = true → p.toList ≠ headerBytes k) :
    parseHeader p = none := by
  rw [Option.eq_none_iff_forall_ne_some]
  intro k hk
  obtain ⟨hrange, hbytes⟩ := (parseHeader_iff p k).mp hk
  exact h k hrange hbytes

section EditCheck

variable {s : State} {n : Port}

theorem editCheck_notMember (h : s.members.getLsbD n.val = false) : s.editCheck n = some .notMember := by
  rw [State.editCheck, State.isMember, h]
  rfl

theorem editCheck_notReady (hm : s.members.getLsbD n.val = true) (h : s.exchange = .init) :
    s.editCheck n = some .notReady := by
  rw [State.editCheck, State.isMember, hm, notReady_of_init h]
  rfl

/-- Of a member in a state other than INIT only the shadow's lock is asked. -/
theorem editCheck_of_ready (hm : s.members.getLsbD n.val = true) (h : s.exchange ≠ .init) :
    s.editCheck n = refuseIf s.shadowLocked .shadowLocked := by
  rw [State.editCheck, State.isMember, hm, notReady_of_ne_init h]
  rfl

theorem editCheck_locked (hm : s.members.getLsbD n.val = true) (h : s.exchange ≠ .init)
    (hlock : s.switchPending = true ∨ ∃ b, s.ballot.current = some b ∧ b.item = .commit) :
    s.editCheck n = some .shadowLocked := by
  rw [editCheck_of_ready hm h, (shadowLocked_iff s).mpr hlock]
  rfl

theorem editCheck_passes (hm : s.members.getLsbD n.val = true) (h : s.exchange ≠ .init) (hflag : s.switchPending = false)
    (hballot : ∀ b, s.ballot.current = some b → b.item ≠ .commit) : s.editCheck n = none := by
  have hfree : s.shadowLocked = false := by
    rw [← Bool.not_eq_true, shadowLocked_iff]
    rintro (hset | ⟨b, hb, hitem⟩)
    · rw [hflag] at hset
      nomatch hset
    · exact hballot b hb hitem
  rw [editCheck_of_ready hm h, hfree]
  rfl

end EditCheck

section Edits

variable {n : Port} {record p2 p3 hc : Byte} {s : State} (hl : s.live = true)
include hl

theorem exec_editRecord (def12 : Vector Byte 12) (hp : (s.port n).parser = .payload ⟨0x30, record, p2, p3, hc⟩) :
    exec (.editRecord n record def12 (crc8 def12.toList)) s
      = .next (match (s.editCheck n).or (refuseIf ((recNo? record).isNone || (parseDef def12).isNone) .range) with
        | some x => s.endFrame n x 13
        | none => (match recNo? record, parseDef def12 with
          | some r, some d => s.setShadowDef r (some d)
          | _, _ => s).endFrame n .ok 13) := by
  have hframe := writeFrameOn_payload (params := [record]) (payload := def12.toList) hl hp rfl (by simp; rfl)
  have h := writeKind_of_frame ((s.editCheck n).or (refuseIf ((recNo? record).isNone || (parseDef def12).isNone) .range))
    (match recNo? record, parseDef def12 with
      | some r, some d => s.setShadowDef r (some d)
      | _, _ => s) hframe
  rw [show (def12.toList ++ [crc8 def12.toList]).length = 13 by simp] at h
  exact h

theorem exec_editHeader (hdr16 : Vector Byte 16) (hp : (s.port n).parser = .payload ⟨0x32, record, p2, p3, hc⟩) :
    exec (.editHeader n hdr16 (crc8 hdr16.toList)) s
      = .next (match (s.editCheck n).or (refuseIf (parseHeader hdr16).isNone .range) with
        | some x => s.endFrame n x 17
        | none => (match parseHeader hdr16 with
          | some h => s.setShadow { s.shadow with header := h }
          | none => s).endFrame n .ok 17) := by
  have hframe := writeFrameOn_payload (params := []) (payload := hdr16.toList) hl hp rfl (by simp; rfl)
  have h := writeKind_of_frame ((s.editCheck n).or (refuseIf (parseHeader hdr16).isNone .range))
    (match parseHeader hdr16 with
      | some h => s.setShadow { s.shadow with header := h }
      | none => s) hframe
  rw [show (hdr16.toList ++ [crc8 hdr16.toList]).length = 17 by simp] at h
  exact h

theorem exec_dropRecord (hp : (s.port n).parser = .payload ⟨0x31, record, p2, p3, hc⟩) :
    exec (.dropRecord n record) s
      = .next (match (s.editCheck n).or (refuseIf (recNo? record).isNone .range) with
        | some x => s.endFrame n x 0
        | none => (match recNo? record with
          | some r => s.setShadowDef r none
          | none => s).endFrame n .ok 0) :=
  writeKind_of_frame _ _ (writeFrameOn_nil (params := [record]) hl hp rfl rfl)

theorem exec_revertShadow (hp : (s.port n).parser = .payload ⟨0x33, record, p2, p3, hc⟩) :
    exec (.revertShadow n) s
      = .next (match s.editCheck n with
        | some x => s.endFrame n x 0
        | none => (s.setShadow s.active).endFrame n .ok 0) :=
  writeKind_of_frame _ _ (writeFrameOn_nil (params := []) hl hp rfl rfl)

/-- An edit that the checks common to the four refuse ends its frame with that result. -/
theorem exec_edit_refused {c : Instr} {code hcheck : Byte} {after : Nat} (def12 : Vector Byte 12) (hdr16 : Vector Byte 16)
    (hmem : (c, code, after) ∈ [(Instr.editRecord n record def12 (crc8 def12.toList), (0x30 : Byte), 13),
      (.dropRecord n record, 0x31, 0), (.editHeader n hdr16 (crc8 hdr16.toList), 0x32, 17), (.revertShadow n, 0x33, 0)])
    (hp : (s.port n).parser = .payload ⟨code, record, p2, p3, hcheck⟩) {x : Result} (hx : s.editCheck n = some x) :
    exec c s = .next (s.endFrame n x after) := by
  simp only [List.mem_cons, Prod.mk.injEq, List.not_mem_nil, or_false] at hmem
  obtain ⟨rfl, rfl, rfl⟩ | ⟨rfl, rfl, rfl⟩ | ⟨rfl, rfl, rfl⟩ | ⟨rfl, rfl, rfl⟩ := hmem
  · rw [exec_editRecord hl def12 hp, hx, Option.some_or]
  · rw [exec_dropRecord hl hp, hx, Option.some_or]
  · rw [exec_editHeader hl hdr16 hp, hx, Option.some_or]
  · rw [exec_revertShadow hl hp, hx]

end Edits

/-- Settles O21: the checks common to the four edits in their order, then RANGE by the layouts of O22. -/
theorem shadowEditsChangeOnlyTheShadow : Obligations.ShadowEditsChangeOnlyTheShadow := by
  unfold Obligations.ShadowEditsChangeOnlyTheShadow
  refine fun n record p2 p3 hc def12 hdr16 s hl => ⟨fun c code after hmem hp => ⟨fun hm => ?_, fun hm hinit => ?_,
    fun hm hready hlock => ?_⟩, fun hm hready hflag hballot => ?passed⟩
  · exact exec_edit_refused hl def12 hdr16 hmem hp (editCheck_notMember hm)
  · exact exec_edit_refused hl def12 hdr16 hmem hp (editCheck_notReady hm hinit)
  · exact exec_edit_refused hl def12 hdr16 hmem hp (editCheck_locked hm hready hlock)
  case passed =>
    have hcheck := editCheck_passes hm hready hflag hballot
    refine ⟨fun hp => ⟨fun hrange => ?_, fun r d hr hin hbytes => ?_⟩, fun hp => ⟨fun hrange => ?_, fun r hr => ?_⟩,
      fun hp => ⟨fun hrange => ?_, fun h hin hbytes => ?_⟩, fun hp => ?_⟩
    · rw [exec_editRecord hl def12 hp, hcheck]
      rcases hrange with hrecord | hdef
      · rw [recNo?_eq_none hrecord]
        rfl
      · rw [parseDef_eq_none hdef, Option.isNone_none, Bool.or_true]
        rfl
    · rw [exec_editRecord hl def12 hp, hcheck, recNo?_of_toNat_eq hr, (parseDef_iff def12 d).mpr ⟨hin, hbytes⟩]
      rfl
    · rw [exec_dropRecord hl hp, hcheck, recNo?_eq_none hrange]
      rfl
    · rw [exec_dropRecord hl hp, hcheck, recNo?_of_toNat_eq hr]
      rfl
    · rw [exec_editHeader hl hdr16 hp, hcheck, parseHeader_eq_none hrange]
      rfl
    · rw [exec_editHeader hl hdr16 hp, hcheck, (parseHeader_iff hdr16 h).mpr ⟨hin, hbytes⟩]
      rfl
    · rw [exec_revertShadow hl hp, hcheck]
      rfl

end Sys2Proof.Machine

/-! # Votes, ballots and changes of exchange state (R99 to R101, R107 to R129) -/

namespace Sys2Proof.Machine

/-! ## Changes of exchange state (R111, R114, R122) -/

/-- R114's table, item by item. -/
theorem allowedIn_iff (i : Item) (x : ExState) : i.allowedIn x = true ↔
    (i = .start ∧ x = .config)
      ∨ (i = .stop ∧ (x = .armed ∨ x = .run ∨ x = .hold))
      ∨ (i = .commit ∧ (x = .config ∨ x = .armed ∨ x = .run ∨ x = .hold))
      ∨ (i = .release ∧ x = .halted)
      ∨ (i = .clear ∧ (x = .config ∨ x = .halted)) := by
  cases i with
  | start => cases x <;> simp [Item.allowedIn]
  | stop => cases x <;> simp [Item.allowedIn]
  | commit => cases x <;> simp [Item.allowedIn]
  | release => cases x <;> simp [Item.allowedIn]
  | clear => cases x <;> simp [Item.allowedIn]

section Changes

variable (s : State)

theorem setExchange_exchangeNote (x : ExState) : (s.setExchange x).exchangeNote = s.movedTo x := exchangeNote_eq _

theorem changeExchange_of_none (x : ExState) (h : s.ballot.current = none) : s.changeExchange x = s.movedTo x :=
  changeExchange_of_allowed s x fun b hb => by
    rw [h] at hb
    nomatch hb

theorem cancelDisallowed_of_disallowed {x : ExState} {b : OpenBallot} (hb : s.ballot.current = some b)
    (h : b.item.allowedIn x = false) : s.cancelDisallowed x = s.closeBallot b .cancelled .none 0 := by
  simp [State.cancelDisallowed, hb, h]

theorem changeExchange_of_disallowed {x : ExState} {b : OpenBallot} (hb : s.ballot.current = some b)
    (h : b.item.allowedIn x = false) : s.changeExchange x = (s.closeBallot b .cancelled .none 0).movedTo x := by
  rw [State.changeExchange, cancelDisallowed_of_disallowed s hb h, setExchange_exchangeNote]

/-- What a close does, at once (R124). -/
theorem closeBallot_eq (b : OpenBallot) (o : BallotOutcome) (reason : Reason) (r : RecNo) :
    s.closeBallot b o reason r
      = { s with ballot := ⟨none, ⟨some b.item, some o, reason, r⟩⟩,
                 ports := Vector.ofFn fun n =>
                   if s.members.getLsbD n.val = true then
                     (s.port n).accept (.ballot s.tb.cycleNumber b.item o)
                   else s.port n } :=
  handAll_eq _ _ _

/-- A close does not depend on the ballot it replaces. -/
theorem setBallot_closeBallot (x : BallotRecord) (b : OpenBallot) (o : BallotOutcome) (reason : Reason) (r : RecNo) :
    (s.setBallot x).closeBallot b o reason r = s.closeBallot b o reason r := rfl

end Changes

/-- Settles O23. -/
theorem stateChangesCancelAndNotify : Obligations.StateChangesCancelAndNotify :=
  ⟨allowedIn_iff, fun s x => ⟨changeExchange_of_allowed s x, fun _ => changeExchange_of_disallowed s⟩⟩

/-- Settles O28: a close from its note's form, the timer by what is due. -/
theorem closesNotifyAndTheTimerExpires : Obligations.ClosesNotifyAndTheTimerExpires := by
  unfold Obligations.ClosesNotifyAndTheTimerExpires
  refine ⟨fun b o reason r s => closeBallot_eq s b o reason r, fun s b hlive hb => ⟨fun hlt => ?_, fun hle => ?_⟩⟩
  · change execBallotTimerTick s = _
    unfold execBallotTimerTick
    rw [hb]
    dsimp only
    rw [hlive, decide_eq_true hlt]
    rfl
  · change execBallotExpiry s = _
    unfold execBallotExpiry
    rw [hb]
    dsimp only
    rw [hlive, decide_eq_true hle]
    rfl

/-- Settles O29: by the item, and for STOP by the state. -/
theorem passedBallotsHaveTheirEffect : Obligations.PassedBallotsHaveTheirEffect := by
  unfold Obligations.PassedBallotsHaveTheirEffect
  intro s hb
  have hswitch : s.applySwitch.ballot.current = none := by simpa using hb
  have henter (hpending : s.switchPending = true) : s.enterConfig = s.applySwitch.movedTo .config := by
    rw [State.enterConfig, hpending, if_pos rfl, changeExchange_of_none _ _ hswitch]
  have henter' (hclear : s.switchPending = false) : s.enterConfig = s.movedTo .config := by
    rw [State.enterConfig, hclear, if_neg (by decide), changeExchange_of_none _ _ hb]
  have hstop (hx : s.exchange = .armed ∨ s.exchange = .hold) : s.passEffect .stop = s.enterConfig := by
    refine if_neg fun hrun => ?_
    rcases hx with hx | hx
    · rw [hx] at hrun
      nomatch hrun
    · rw [hx] at hrun
      nomatch hrun
  refine ⟨changeExchange_of_none s _ hb, fun hrun => ?_, fun hx hpending => ?_, fun hx hclear => ?_, fun hx => if_pos hx,
    fun hx => if_neg hx, henter'⟩
  · exact (if_pos hrun).trans (changeExchange_of_none s _ hb)
  · exact (hstop hx).trans (henter hpending)
  · exact (hstop hx).trans (henter' hclear)

/-! ## The rules (R119, R120) -/

section Rules

variable (s : State) (b : OpenBallot)

/-- The members' votes are counted among the members. -/
theorem votesCast_eq (v : Vote) :
    s.votesCast b v = ((allPorts.filter s.isMember).filter fun n => b.votes[n] = v).length := by
  rw [List.filter_filter]
  simp only [State.votesCast, Bool.and_comm]

theorem votesCast_pos {v : Vote} : 0 < s.votesCast b v ↔ ∃ n : Port, s.members.getLsbD n.val = true ∧ b.votes[n] = v := by
  simp only [State.votesCast, List.length_pos_iff_exists_mem, List.mem_filter, Bool.and_eq_true, decide_eq_true_eq,
    State.isMember, mem_allPorts, true_and]

theorem votesCast_eq_memberCount {v : Vote} :
    s.votesCast b v = s.memberCount ↔ ∀ n : Port, s.members.getLsbD n.val = true → b.votes[n] = v := by
  rw [votesCast_eq, State.memberCount, List.length_filter_eq_length_iff]
  simp only [List.mem_filter, mem_allPorts, true_and, decide_eq_true_eq, State.isMember]

theorem decision_of_ne_stop (h : b.item ≠ .stop) :
    s.decision b = if 0 < s.votesCast b .no then some (.failed, .veto)
      else if s.votesCast b .yes = s.memberCount then some (.passed, .none) else none := if_neg h

theorem decision_of_stop (h : b.item = .stop) :
    s.decision b = if s.majority ≤ s.votesCast b .yes then some (.passed, .none)
      else if s.memberCount - s.votesCast b .no < s.majority then some (.failed, .majorityLost) else none := if_pos h

end Rules

/-- Settles O27: the unanimous rule by a NO, by the YES of every member and by a missing vote; the majority rule by its bounds. -/
theorem ballotRulesDecide : Obligations.BallotRulesDecide := by
  unfold Obligations.BallotRulesDecide
  refine ⟨fun b s hitem => ?unanimous, fun b s hitem => ?majority⟩
  case unanimous =>
    rw [decision_of_ne_stop s b hitem]
    have hnone (h : ∀ n : Port, s.members.getLsbD n.val = true → b.votes[n] ≠ .no) : ¬ 0 < s.votesCast b .no := by
      rw [votesCast_pos]
      rintro ⟨n, hn, hno⟩
      exact h n hn hno
    refine ⟨fun hno => if_pos ((votesCast_pos s b).mpr hno), fun hyes => ?_, fun hno hmissing => ?_⟩
    · rw [if_neg (hnone fun n hn hno => ?_), if_pos ((votesCast_eq_memberCount s b).mpr hyes)]
      rw [hyes n hn] at hno
      nomatch hno
    · rw [if_neg (hnone hno), if_neg]
      rw [votesCast_eq_memberCount]
      intro hyes
      obtain ⟨n, hn, hvote⟩ := hmissing
      rw [hyes n hn] at hvote
      nomatch hvote
  case majority =>
    rw [decision_of_stop s b hitem, State.majority]
    refine ⟨fun hyes => if_pos (by omega), fun hyes hlost => ?_, fun hyes hopen => ?_, fun v => ?_⟩
    · rw [if_neg (by omega), if_pos (by omega)]
    · rw [if_neg (by omega), if_neg (by omega)]
    · simp only [State.votesCast, State.isMember, allPorts, Bool.decide_and, Bool.decide_eq_true]

/-! ## VOTE: its checks (R115) -/

theorem item?_of_code {b : Byte} {i : Item} (h : b.toNat = i.code) : item? b = some i := by
  obtain rfl : b = byteOf i.code := by rw [← h, byteOf_toNat]
  cases i <;> rfl

theorem item?_eq_none {b : Byte} (h : b = 0 ∨ 6 ≤ b.toNat) : item? b = none := by
  have hne (k : Byte) (hk : 1 ≤ k.toNat ∧ k.toNat ≤ 5) : b ≠ k := by
    rintro rfl
    rcases h with rfl | h
    · exact absurd hk.1 (by decide)
    · omega
  rw [item?, if_neg (hne 1 (by decide)), if_neg (hne 2 (by decide)), if_neg (hne 3 (by decide)), if_neg (hne 4 (by decide)),
    if_neg (hne 5 (by decide))]

theorem choice?_eq_none {c : Byte} (h : c ≠ 1 ∧ c ≠ 2) : choice? c = none := by
  rw [choice?, if_neg h.1, if_neg h.2]

theorem choice?_eq_some {c : Byte} (h : c = 1 ∨ c = 2) : choice? c = some (if c = 2 then .no else .yes) := by
  rcases h with rfl | rfl <;> rfl

section VoteCheck

variable {s : State} {n : Port}

theorem voteCheck_notMember (item choice : Byte) (h : s.members.getLsbD n.val = false) :
    s.voteCheck n item choice = some .notMember := by
  rw [State.voteCheck, State.isMember, h]
  rfl

theorem voteCheck_notReady (item choice : Byte) (hm : s.members.getLsbD n.val = true) (h : s.exchange = .init) :
    s.voteCheck n item choice = some .notReady := by
  rw [State.voteCheck, State.isMember, hm, notReady_of_init h]
  rfl

section Ready

variable {item choice : Byte} (hm : s.members.getLsbD n.val = true) (h : s.exchange ≠ .init)
include hm h

theorem voteCheck_range (hbad : item? item = none ∨ choice? choice = none) : s.voteCheck n item choice = some .range := by
  rw [State.voteCheck, State.isMember, hm, notReady_of_ne_init h]
  rcases hbad with hbad | hbad
  · rw [hbad]
    rfl
  · rw [hbad]
    cases item? item <;> rfl

theorem voteCheck_of_codes {i : Item} {v : Vote} (hi : item? item = some i) (hv : choice? choice = some v) :
    s.voteCheck n item choice = s.voteCodesCheck n i v := by
  rw [State.voteCheck, State.isMember, hm, notReady_of_ne_init h, hi, hv]
  rfl

end Ready

/-- The last four checks with a ballot open: its item, the state, this member's vote. -/
theorem voteCodesCheck_of_open (i : Item) (v : Vote) {b : OpenBallot} (hb : s.ballot.current = some b) :
    s.voteCodesCheck n i v
      = ((refuseIf (b.item != i) .ballotBusy).or (refuseIf (!i.allowedIn s.exchange) .wrongState)).or
          (refuseIf (b.votes[n] != Vote.none) .alreadyVoted) := by
  simp [State.voteCodesCheck, State.openItem, hb, refuseIf]

/-- The last four checks with no ballot open: the state, and a NO opens none. -/
theorem voteCodesCheck_of_none (i : Item) (v : Vote) (hb : s.ballot.current = none) :
    s.voteCodesCheck n i v
      = (refuseIf (!i.allowedIn s.exchange) .wrongState).or (refuseIf (v = .no) .noBallot) := by
  simp [State.voteCodesCheck, State.openItem, hb, refuseIf]

end VoteCheck

section Vote

variable {n : Port} {item choice p3 hc : Byte} {s : State} (hl : s.live = true)
  (hp : (s.port n).parser = .payload ⟨0x34, item, choice, p3, hc⟩)
include hl hp

theorem exec_vote :
    exec (.vote n item choice) s
      = .next (match s.voteCheck n item choice with
        | some r => s.endFrame n r 0
        | none => (match item? item, choice? choice with
          | some i, some v => s.takeVote n i v
          | _, _ => s).endFrame n .ok 0) :=
  writeKind_of_frame _ _ (writeFrameOn_nil (params := [item, choice]) hl hp rfl rfl)

theorem exec_vote_refused {x : Result} (h : s.voteCheck n item choice = some x) :
    exec (.vote n item choice) s = .next (s.endFrame n x 0) := by rw [exec_vote hl hp, h]

theorem exec_vote_taken {i : Item} {v : Vote} (hm : s.members.getLsbD n.val = true) (hready : s.exchange ≠ .init)
    (hi : item? item = some i) (hv : choice? choice = some v) (h : s.voteCodesCheck n i v = none) :
    exec (.vote n item choice) s = .next ((s.takeVote n i v).endFrame n .ok 0) := by
  rw [exec_vote hl hp, voteCheck_of_codes hm hready hi hv, h, hi, hv]

end Vote

/-- Settles O24: by the first check that refuses. -/
theorem voteRefusalsInOrder : Obligations.VoteRefusalsInOrder := by
  unfold Obligations.VoteRefusalsInOrder
  intro n item choice p3 hc s hl hp
  have refused {x : Result} (h : s.voteCheck n item choice = some x) := exec_vote_refused hl hp h
  refine ⟨fun hm => refused (voteCheck_notMember _ _ hm), fun hm hinit => refused (voteCheck_notReady _ _ hm hinit),
    fun hm hready hbad => refused (voteCheck_range hm hready ?_), fun i hm hready hi hchoice => ?codes⟩
  · rcases hbad with hzero | hlarge | hchoice
    · exact .inl (item?_eq_none (.inl hzero))
    · exact .inl (item?_eq_none (.inr hlarge))
    · exact .inr (choice?_eq_none hchoice)
  case codes =>
    have hcheck := voteCheck_of_codes hm hready (item?_of_code hi) (choice?_eq_some hchoice)
    refine ⟨fun b hb => ?_, fun hb => ?_⟩
    · rw [voteCodesCheck_of_open _ _ hb] at hcheck
      refine ⟨fun hitem => refused ?_, fun hitem hstate => refused ?_, fun hitem hstate hvote => refused ?_⟩
      · rw [hcheck, bne_iff_ne.mpr hitem]
        rfl
      · rw [hcheck, hitem, hstate, bne_self_eq_false]
        rfl
      · rw [hcheck, hitem, hstate, bne_self_eq_false, bne_iff_ne.mpr hvote]
        rfl
    · rw [voteCodesCheck_of_none _ _ hb] at hcheck
      refine ⟨fun hstate => refused ?_, fun hstate hno => refused ?_⟩
      · rw [hcheck, hstate]
        rfl
      · rw [hcheck, hstate, hno]
        rfl

/-! ## VOTE: opening and deciding a ballot (R116 to R118) -/

section Decide

variable {s : State} {n : Port} {i : Item}

/-- An open ballot closes, or waits, as its rule decides (R118). -/
theorem settleBallot_setBallot (last : LastOutcome) (b : OpenBallot) :
    (s.setBallot ⟨some b, last⟩).settleBallot = match s.decision b with
      | none => s.setBallot ⟨some b, last⟩
      | some (o, reason) => if o = .passed then (s.closeBallot b o reason 0).passEffect b.item
          else s.closeBallot b o reason 0 := rfl

theorem newBallot_vote (m : Port) : (s.newBallot n i).votes[m] = if m = n then .yes else .none := by
  rw [State.newBallot]
  simp only [Fin.getElem_fin, Vector.getElem_set, Vector.getElem_replicate, Fin.ext_iff, eq_comm]

/-- The opener is the one member that has voted. -/
theorem votesCast_newBallot_yes (hm : s.members.getLsbD n.val = true) : s.votesCast (s.newBallot n i) .yes = 1 := by
  have hpred : (fun m => s.isMember m && decide ((s.newBallot n i).votes[m] = .yes)) = fun m => decide (m = n) := by
    funext m
    rw [newBallot_vote]
    by_cases h : m = n
    · subst h
      simpa [State.isMember] using hm
    · simp [h]
  rw [State.votesCast, hpred]
  clear hpred hm
  revert n
  decide

theorem votesCast_newBallot_no : s.votesCast (s.newBallot n i) .no = 0 := by
  refine Nat.eq_zero_of_not_pos fun h => ?_
  obtain ⟨m, _, hm⟩ := (votesCast_pos s _).mp h
  rw [newBallot_vote] at hm
  split at hm <;> nomatch hm

theorem decision_newBallot (hm : s.members.getLsbD n.val = true) :
    (1 < s.memberCount → s.decision (s.newBallot n i) = none)
      ∧ (s.memberCount = 1 → s.decision (s.newBallot n i) = some (.passed, .none)) := by
  by_cases hstop : i = .stop
  · rw [decision_of_stop s (s.newBallot n i) hstop, State.majority, votesCast_newBallot_yes hm, votesCast_newBallot_no]
    constructor
    · intro h
      rw [if_neg (by omega), if_neg (by omega)]
    · intro h
      rw [if_pos (by omega)]
  · rw [decision_of_ne_stop s (s.newBallot n i) hstop, votesCast_newBallot_yes hm, votesCast_newBallot_no,
      if_neg (by decide)]
    constructor
    · intro h
      rw [if_neg (by omega)]
    · intro h
      rw [if_pos h.symm]

/-- A COMMIT whose validation fails closes at once (R117). -/
theorem openBallot_of_invalid {reason : Reason} {r : RecNo} (hi : i = .commit) (h : s.validate = some (reason, r)) :
    s.openBallot n i = s.closeBallot (s.newBallot n i) .failed reason r := by
  unfold State.openBallot
  dsimp only
  rw [if_pos hi, validate_setBallot, h]
  rfl

/-- Any other ballot opens and is judged (R116). -/
theorem openBallot_of_valid (h : i ≠ .commit ∨ s.validate = none) :
    s.openBallot n i = (s.setBallot ⟨some (s.newBallot n i), s.ballot.last⟩).settleBallot := by
  have hcheck (x : BallotRecord) : (if i = .commit then (s.setBallot x).validate else none) = none := by
    split
    · next hi => rw [validate_setBallot, h.resolve_left fun hne => hne hi]
    · rfl
  unfold State.openBallot
  dsimp only
  rw [hcheck]

theorem takeVote_of_none (v : Vote) (h : s.ballot.current = none) : s.takeVote n i v = s.openBallot n i := by
  rw [State.takeVote, h]

theorem takeVote_of_open (v : Vote) {b : OpenBallot} (h : s.ballot.current = some b) :
    s.takeVote n i v = (s.setBallot ⟨some { b with votes := b.votes.set n v }, s.ballot.last⟩).settleBallot := by
  rw [State.takeVote, h]

end Decide

theorem toNat_itemCode (i : Item) : (byteOf i.code).toNat = i.code := by cases i <;> rfl

/-- Settles O25: the checks pass, the validation of a COMMIT comes first, and the one vote is counted. -/
theorem yesVoteOpensBallot : Obligations.YesVoteOpensBallot := by
  unfold Obligations.YesVoteOpensBallot
  intro n i p3 hc s hl hp hm hready hallowed hnone b
  have hcheck : s.voteCodesCheck n i .yes = none := by
    rw [voteCodesCheck_of_none _ _ hnone, hallowed]
    rfl
  have htaken := exec_vote_taken hl hp hm hready (item?_of_code (toNat_itemCode i)) rfl hcheck
  rw [takeVote_of_none _ hnone] at htaken
  obtain ⟨hwaits, hpasses⟩ := decision_newBallot (i := i) hm
  refine ⟨fun reason r hi hinvalid => ?_, fun hvalid hmany => ?_, fun hvalid hone => ?_⟩
  · rw [htaken, openBallot_of_invalid hi hinvalid]
    rfl
  · rw [htaken, openBallot_of_valid hvalid, settleBallot_setBallot, hwaits hmany]
    rfl
  · rw [htaken, openBallot_of_valid hvalid, settleBallot_setBallot, hpasses hone]
    rfl

/-- Settles O26: the checks pass, and the rule decides on the votes with this one. -/
theorem voteIsRecordedAndDecided : Obligations.VoteIsRecordedAndDecided := by
  unfold Obligations.VoteIsRecordedAndDecided
  intro n b choice p3 hc v s hl hp hm hready hallowed hb hvote hchoice b'
  have hv : choice? choice = some v := by
    rcases hchoice with ⟨rfl, rfl⟩ | ⟨rfl, rfl⟩ <;> rfl
  have hcheck : s.voteCodesCheck n b.item v = none := by
    rw [voteCodesCheck_of_open _ _ hb, hallowed, hvote, bne_self_eq_false, bne_self_eq_false]
    rfl
  have htaken := exec_vote_taken hl hp hm hready (item?_of_code (toNat_itemCode b.item)) hv hcheck
  rw [takeVote_of_open _ hb, settleBallot_setBallot] at htaken
  refine ⟨fun hwaits => ?_, fun reason hfails => ?_, fun hpasses => ?_⟩
  · rw [htaken, hwaits]
    rfl
  · rw [htaken, hfails]
    rfl
  · rw [htaken, hpasses]
    rfl

/-! ## The passing of CLEAR (R93, R109) -/

/-- A lane holds a record exactly while it is not IDLE. -/
theorem record_any_true (h : Hold) : (h.record.any fun _ => true) = decide (h ≠ .idle) := by cases h <;> rfl

/-- An emptied queue takes the EXCHANGE note unless the mask discards it (R61, R63). -/
theorem accept_exchange_of_empty {p : PortState} (x : ExState) (hq : p.queue = []) :
    p.accept (.exchange 0 x) = { p with queue := if p.noteMask.getLsbD 2 = true then [.exchange 0 x] else [] } := by
  have hmasks : p.masks (.exchange 0 x) = !p.noteMask.getLsbD 2 := rfl
  have haccept : p.accept (.exchange 0 x) = if p.masks (.exchange 0 x) = true then p else p.join (.exchange 0 x) := rfl
  rw [haccept, hmasks]
  by_cases hmask : p.noteMask.getLsbD 2 = true
  · rw [hmask, if_pos rfl, Bool.not_true, if_neg (by decide), PortState.join, hq]
    rfl
  · rw [Bool.eq_false_iff.mpr hmask, Bool.not_false, if_pos rfl, if_neg (by decide), ← hq]

theorem enterInit_ml (s : State) : s.enterInit.ml = s.ml := by
  unfold State.enterInit
  simp

theorem passClear_ml (s : State) : s.passClear.ml = (s.abortLanes .abortedClear fun _ => true).ml := by
  unfold State.passClear
  rw [enterInit_ml]
  simp

theorem passClear_tb (s : State) : s.passClear.tb = .fresh s.opt.resetHeader.mode false := by
  unfold State.passClear
  rw [enterInit_tb]
  simp

/-- Settles O30: the lanes, the ports and the line by their aborts, the rest by the entry to INIT. -/
theorem passedClearEntersInit : Obligations.PassedClearEntersInit := by
  unfold Obligations.PassedClearEntersInit
  intro s
  obtain ⟨hactive, hshadow, hruntimes⟩ := passClear_table s
  refine ⟨s.passClear, rfl, ?_, ?_, ?_, hactive, hshadow.trans hactive.symm, runtime_of_replicate hruntimes, fun l => ?lane,
    fun n => ?port, ?tb, ?ml, ?_, ?_, ?_, ?_, ?_, ?_, ?_, ?_⟩
  case lane =>
    rw [passClear_lane, record_any_true]
    by_cases h : (s.lane l).hold = .idle
    · rw [if_pos h, if_neg (by simp [h])]
    · rw [if_neg h, if_pos (by simp [h])]
  case port =>
    rw [passClear_port, accept_exchange_of_empty _ rfl, record_any_true]
    by_cases h : (s.lane (laneOf n)).hold = .idle
    · simp [h, Hold.isFetch]
    · simp [h, PortState.aborted]
  case tb =>
    rw [hactive, passClear_tb, fresh_eq]
    rfl
  case ml =>
    rw [passClear_ml, abortLanes_ml, record_any_true]
    by_cases h : (s.lane lm).hold = .idle
    · simp [h]
    · simp [h]
  all_goals simp [State.passClear, enterInit_exchange]

end Sys2Proof.Machine

/-! # FREEZE and PORT RESET (R28, R91, R94, R106, R107, R123, R138, R168, R179) -/

namespace Sys2Proof.Machine

/-! ## The abort of one port's STAGE (R91) -/

/-- The abort of FREEZE on one port. -/
def State.freezeAbort (s : State) (n : Port) : State :=
  if (s.lane (laneOf n)).hold.isStage then
    ((s.stageAbortClaim (laneOf n)).endTransfer (laneOf n) .abortedFreeze).setXfer n
  else s

theorem freezeAborts_eq (s : State) : s.freezeAborts = allPorts.foldl State.freezeAbort s := rfl

/-- What the stage-abort claim of a lane does to the runtime of record r (R28). -/
def Hold.abortOn (h : Hold) (r : RecNo) (rt : Runtime) : Runtime :=
  match h with
  | .staging r' _ => if r = r' then rt.abortActive else rt
  | .waiting r' => if r = r' then rt.abortWaiting else rt
  | .idle | .fetching _ _ _ => rt

@[simp] theorem isStage_idle : Hold.idle.isStage = false := rfl

section OneAbort

variable (s : State) (n : Port)

theorem stageAbortClaim_runtime (l : LaneNo) (r : RecNo) :
    (s.stageAbortClaim l).runtime r = (s.runtime r).map ((s.lane l).hold.abortOn r) := by
  have hmod (q : RecNo) (f : Runtime → Runtime) :
      (s.modRuntime q f).runtime r = (s.runtime r).map fun rt => if r = q then f rt else rt := by
    rw [modRuntime_runtime]
    by_cases h : r = q
    · subst h
      simp
    · simp [h]
  unfold State.stageAbortClaim
  cases (s.lane l).hold with
  | staging q i => exact hmod q _
  | waiting q => exact hmod q _
  | idle => exact Option.map_id_apply.symm
  | fetching q i b => exact Option.map_id_apply.symm

theorem freezeAbort_of_stage (h : (s.lane (laneOf n)).hold.isStage = true) :
    s.freezeAbort n = ((s.stageAbortClaim (laneOf n)).endTransfer (laneOf n) .abortedFreeze).setXfer n := if_pos h

theorem freezeAbort_of_not (h : ¬ (s.lane (laneOf n)).hold.isStage = true) : s.freezeAbort n = s := if_neg h

theorem freezeAbort_lane (l : LaneNo) :
    (s.freezeAbort n).lane l
      = if l = laneOf n ∧ (s.lane l).hold.isStage = true then ⟨.idle, .abortedFreeze⟩ else s.lane l := by
  have hends (u : State) : ((u.endTransfer (laneOf n) .abortedFreeze).setXfer n).lane l
      = if l = laneOf n then ⟨.idle, .abortedFreeze⟩ else u.lane l := endTransfer_lane u l (laneOf n) .abortedFreeze
  have hclaim : (s.stageAbortClaim (laneOf n)).lane l = s.lane l := by simp [State.lane]
  by_cases hstage : (s.lane (laneOf n)).hold.isStage = true
  · rw [freezeAbort_of_stage s n hstage, hends]
    by_cases hl : l = laneOf n
    · rw [if_pos hl, if_pos ⟨hl, hl ▸ hstage⟩]
    · rw [if_neg hl, if_neg fun e => hl e.1, hclaim]
  · rw [freezeAbort_of_not s n hstage, if_neg]
    rintro ⟨rfl, h⟩
    exact hstage h

theorem freezeAbort_port (m : Port) :
    (s.freezeAbort n).port m
      = if m = n ∧ (s.lane (laneOf m)).hold.isStage = true then { s.port m with xfer := true } else s.port m := by
  have hclaim (k : Port) : ((s.stageAbortClaim (laneOf n)).endTransfer (laneOf n) .abortedFreeze).port k = s.port k := by
    simp [State.port]
  by_cases hstage : (s.lane (laneOf n)).hold.isStage = true
  · rw [freezeAbort_of_stage s n hstage, setXfer_port, hclaim, hclaim]
    by_cases hm : m = n
    · subst hm
      rw [if_pos rfl, if_pos ⟨rfl, hstage⟩]
    · rw [if_neg hm, if_neg fun e => hm e.1]
  · rw [freezeAbort_of_not s n hstage, if_neg]
    rintro ⟨rfl, h⟩
    exact hstage h

theorem freezeAbort_runtime (r : RecNo) :
    (s.freezeAbort n).runtime r = (s.runtime r).map ((s.lane (laneOf n)).hold.abortOn r) := by
  unfold State.freezeAbort
  split
  · rw [← stageAbortClaim_runtime]
    simp [State.runtime]
  · next h =>
    have hid : (s.lane (laneOf n)).hold.abortOn r = id := by
      cases hh : (s.lane (laneOf n)).hold <;> rw [hh] at h
      case waiting => exact absurd rfl h
      case staging => exact absurd rfl h
      all_goals rfl
    rw [hid, Option.map_id_apply]

end OneAbort

/-! ## The aborts of several ports -/

section Aborts

variable (ps : List Port)

theorem freezeFold_lane (n : Port) (s : State) :
    (ps.foldl State.freezeAbort s).lane (laneOf n)
      = if n ∈ ps ∧ (s.lane (laneOf n)).hold.isStage = true then ⟨.idle, .abortedFreeze⟩ else s.lane (laneOf n) := by
  induction ps generalizing s with
  | nil => simp
  | cons p ps ih =>
    rw [List.foldl_cons, ih, freezeAbort_lane]
    simp only [laneOf_inj]
    by_cases hstage : (s.lane (laneOf n)).hold.isStage = true
    · by_cases hp : n = p
      · subst hp
        simp [hstage]
      · simp [hp, hstage]
    · simp [hstage]

theorem freezeFold_lm (s : State) : (ps.foldl State.freezeAbort s).lane lm = s.lane lm := by
  induction ps generalizing s with
  | nil => rfl
  | cons p ps ih => rw [List.foldl_cons, ih, freezeAbort_lane, if_neg fun e => laneOf_ne_lm p e.1.symm]

theorem freezeFold_port (n : Port) (s : State) :
    (ps.foldl State.freezeAbort s).port n
      = if n ∈ ps ∧ (s.lane (laneOf n)).hold.isStage = true then { s.port n with xfer := true } else s.port n := by
  induction ps generalizing s with
  | nil => simp
  | cons p ps ih =>
    rw [List.foldl_cons, ih, freezeAbort_lane, freezeAbort_port]
    simp only [laneOf_inj]
    by_cases hstage : (s.lane (laneOf n)).hold.isStage = true
    · by_cases hp : n = p
      · subst hp
        simp [hstage]
      · simp [hp, hstage]
    · simp [hstage]

/-- The lanes are different, so each of them is aborted as it was found. -/
theorem freezeFold_runtime (hdistinct : ps.Nodup) (r : RecNo) (s : State) :
    (ps.foldl State.freezeAbort s).runtime r
      = (s.runtime r).map fun rt => ps.foldl (fun x n => (s.lane (laneOf n)).hold.abortOn r x) rt := by
  induction ps generalizing s with
  | nil => simp
  | cons p ps ih =>
    obtain ⟨hnew, hrest⟩ := List.nodup_cons.mp hdistinct
    have hlanes (x : Runtime) (n : Port) (hn : n ∈ ps) :
        ((s.freezeAbort p).lane (laneOf n)).hold.abortOn r x = (s.lane (laneOf n)).hold.abortOn r x := by
      rw [freezeAbort_lane, if_neg]
      rintro ⟨he, _⟩
      rw [laneOf_inj] at he
      exact hnew (he ▸ hn)
    rw [List.foldl_cons, ih hrest, freezeAbort_runtime, Option.map_map]
    refine Option.map_congr fun x _ => ?_
    exact List.foldl_ext _ _ _ fun y n hn => hlanes y n hn

end Aborts

/-- A fold that leaves its start or settles, and stays settled, is settled by any element that settles it. -/
theorem foldl_settles {α β : Type} {f : β → α → β} {a b : β} (hstep : ∀ x, f a x = a ∨ f a x = b) (hstay : ∀ x, f b x = b)
    {l : List α} {x : α} (hx : x ∈ l) (hmove : f a x = b) : l.foldl f a = b := by
  induction l with
  | nil => nomatch hx
  | cons y l ih =>
    have hsettled : l.foldl f b = b := List.foldl_fixed' hstay l
    rw [List.foldl_cons]
    rcases List.mem_cons.mp hx with rfl | hin
    · rw [hmove, hsettled]
    · rcases hstep y with h | h
      · rw [h, ih hin]
      · rw [h, hsettled]

/-! ## What FREEZE does to the transfers (R28, R91) -/

section FreezeAborts

variable (s : State)

theorem freezeAborts_lane (n : Port) :
    s.freezeAborts.lane (laneOf n)
      = if (s.lane (laneOf n)).hold.isStage = true then ⟨.idle, .abortedFreeze⟩ else s.lane (laneOf n) := by
  rw [freezeAborts_eq, freezeFold_lane]
  simp only [mem_allPorts, true_and]

theorem freezeAborts_port (n : Port) :
    s.freezeAborts.port n = { s.port n with xfer := (s.port n).xfer || (s.lane (laneOf n)).hold.isStage } := by
  rw [freezeAborts_eq, freezeFold_port]
  simp only [mem_allPorts, true_and]
  cases (s.lane (laneOf n)).hold.isStage with
  | false => simp
  | true => simp

theorem freezeAborts_runtime (r : RecNo) :
    s.freezeAborts.runtime r
      = (s.runtime r).map fun rt => allPorts.foldl (fun x n => (s.lane (laneOf n)).hold.abortOn r x) rt := by
  rw [freezeAborts_eq, freezeFold_runtime allPorts (by decide)]

theorem abortOn_cases (h : Hold) (r : RecNo) (rt : Runtime) :
    h.abortOn r rt = rt ∨ h.abortOn r rt = rt.abortActive ∨ h.abortOn r rt = rt.abortWaiting := by
  unfold Hold.abortOn
  split
  · split
    · exact .inr (.inl rfl)
    · exact .inl rfl
  · split
    · exact .inr (.inr rfl)
    · exact .inl rfl
  · exact .inl rfl
  · exact .inl rfl

variable {s} {r : RecNo} {rt : Runtime} (hrt : s.runtime r = some rt)

theorem freezeAborts_runtime_same
    (h : ∀ (n : Port) (i : Nat), (s.lane (laneOf n)).hold ≠ .staging r i ∧ (s.lane (laneOf n)).hold ≠ .waiting r) :
    s.freezeAborts.runtime r = s.runtime r := by
  have hid (x : Runtime) (n : Port) : (s.lane (laneOf n)).hold.abortOn r x = x := by
    cases hh : (s.lane (laneOf n)).hold with
    | staging q i => exact if_neg (c := r = q) fun e => (h n i).1 (e ▸ hh)
    | waiting q => exact if_neg (c := r = q) fun e => (h n 0).2 (e ▸ hh)
    | idle => rfl
    | fetching q i b => rfl
  rw [freezeAborts_runtime]
  simp only [hid, List.foldl_fixed, Option.map_id']

include hrt

/-- An ACTIVE STAGE's record goes from FILLING to EMPTY: no STAGE waits on it, so no other abort changes it. -/
theorem freezeAborts_runtime_staging {n : Port} {i : Nat} (hok : rt.BuffersOk)
    (hhold : (s.lane (laneOf n)).hold = .staging r i) (hfilling : rt.staging = .filling) :
    s.freezeAborts.runtime r = some { rt with staging := .empty } := by
  have hnowait : rt.stageWaiting = false := by
    obtain ⟨_, _, _, _, _, hwait⟩ := hok
    rw [← Bool.not_eq_true]
    intro hw
    rw [hwait hw] at hfilling
    nomatch hfilling
  have hactive : rt.abortActive = { rt with staging := .empty } := if_pos hfilling
  have hwaiting : rt.abortWaiting = rt := by rw [Runtime.abortWaiting, ← hnowait]
  have hstays : ({ rt with staging := .empty } : Runtime).abortWaiting = { rt with staging := .empty } := by
    rw [Runtime.abortWaiting, ← hnowait]
  rw [freezeAborts_runtime, hrt, Option.map_some]
  refine congrArg some (foldl_settles (fun m => ?_) (fun m => ?_) (mem_allPorts n) ?_)
  · rcases abortOn_cases (s.lane (laneOf m)).hold r rt with h | h | h
    · exact .inl h
    · exact .inr (h.trans hactive)
    · exact .inl (h.trans hwaiting)
  · rcases abortOn_cases (s.lane (laneOf m)).hold r { rt with staging := .empty } with h | h | h
    · exact h
    · exact h
    · exact h.trans hstays
  · rw [hhold]
    exact (if_pos rfl).trans hactive

/-- A WAITING STAGE's record is waited on no longer: it is BLOCKED, so no abort of an ACTIVE STAGE changes it. -/
theorem freezeAborts_runtime_waiting {n : Port} (hhold : (s.lane (laneOf n)).hold = .waiting r)
    (hblocked : rt.staging = .blocked) : s.freezeAborts.runtime r = some { rt with stageWaiting := false } := by
  have hnot : rt.staging ≠ .filling := by
    rw [hblocked]
    nofun
  have hactive : rt.abortActive = rt := if_neg hnot
  have hstays : ({ rt with stageWaiting := false } : Runtime).abortActive = { rt with stageWaiting := false } := if_neg hnot
  rw [freezeAborts_runtime, hrt, Option.map_some]
  refine congrArg some (foldl_settles (fun m => ?_) (fun m => ?_) (mem_allPorts n) ?_)
  · rcases abortOn_cases (s.lane (laneOf m)).hold r rt with h | h | h
    · exact .inl h
    · exact .inl (h.trans hactive)
    · exact .inr h
  · rcases abortOn_cases (s.lane (laneOf m)).hold r { rt with stageWaiting := false } with h | h | h
    · exact h
    · exact h.trans hstays
    · exact h
  · rw [hhold]
    exact if_pos rfl

end FreezeAborts

/-! ## FREEZE (R106, R107, R138) -/

section Freeze

variable {s : State}

theorem exec_freeze {n : Port} {p1 p2 p3 hc : Byte} (hl : s.live = true)
    (hp : (s.port n).parser = .payload ⟨0x40, p1, p2, p3, hc⟩) :
    exec (.freeze n) s = .next (match s.notReady with
      | some r => s.endFrame n r 0
      | none => s.freezeExchange.endFrame n .ok 0) :=
  writeKind_of_frame _ _ (writeFrameOn_nil (params := []) hl hp rfl rfl)

theorem freezeExchange_of_halted (h : s.exchange = .halted) : s.freezeExchange = s := if_pos h

theorem freezeExchange_eq (h : s.exchange ≠ .halted) :
    s.freezeExchange = (s.freezeAborts.cancelDisallowed .halted).dropSwitch.movedTo .halted := by
  rw [State.freezeExchange, if_neg h, setExchange_exchangeNote]

theorem cancelDisallowed_frame_tb (x : ExState) (u : State) :
    (u.cancelDisallowed x).tb = u.tb ∧ (u.cancelDisallowed x).switchPending = u.switchPending := by
  unfold State.cancelDisallowed State.closeBallot State.ballotNote
  repeat' split
  all_goals simp

theorem dropSwitch_eq (u : State) :
    u.dropSwitch = if u.switchPending = true then
      { u with switchPending := false }.notedAll (.switch u.tb.cycleNumber .dropped) else u := by
  unfold State.dropSwitch
  split
  · exact switchNote_eq _ _
  · rfl

/-- A command code can come to a line that is free, with access and an idle parser (R176). -/
theorem codeCanCome_of (hl : s.live = true) (hfree : s.ml.Free) (hparser : s.ml.parser = .idle)
    (haccess : s.ml.access ≠ .closed) : s.codeCanCome = true := by
  rw [State.codeCanCome, (byteCanCome_iff s).mpr ⟨hl, hfree⟩, hparser, bne_iff_ne.mpr haccess]
  rfl

theorem exec_freezeCommand (h : s.codeCanCome = true) :
    exec .freezeCommand s = .next (if s.ml.access = .limited then s.answerLine 0x0A (nakResponse .denied)
      else if s.exchange = .init then s.answerLine 0x0A (nakResponse .notReady)
      else s.freezeExchange.answerLine 0x0A ackResponse) := by
  change ifDue s.codeCanCome s _ = _
  rw [h]
  rfl

end Freeze

/-- Settles O32: the request and the line's command by their checks, the freeze by its parts, the aborts by lane and by record. -/
theorem freezeHaltsTheExchange : Obligations.FreezeHaltsTheExchange := by
  unfold Obligations.FreezeHaltsTheExchange
  refine ⟨fun s => ⟨fun n p1 p2 p3 hc hl hp => ?request, fun hl hfree hparser => ?command, freezeExchange_of_halted,
    fun hx => ?effects⟩, fun s => ⟨s.freezeAborts, rfl, freezeAborts_lane s, freezeFold_lm allPorts s, freezeAborts_port s,
      fun r => ⟨freezeAborts_runtime_same, fun rt hrt hok => ⟨?_, ?_⟩⟩, ?_⟩⟩
  case request =>
    rw [exec_freeze hl hp]
    refine ⟨fun hinit => ?_, fun hhalted => ?_, fun hready => ?_⟩
    · rw [notReady_of_init hinit]
    · have hready : s.exchange ≠ .init := by
        rw [hhalted]
        nofun
      rw [notReady_of_ne_init hready, freezeExchange_of_halted hhalted]
    · rw [notReady_of_ne_init hready]
  case command =>
    have hanswers (haccess : s.ml.access ≠ .closed) := exec_freezeCommand (codeCanCome_of hl hfree hparser haccess)
    have hopen (haccess : s.ml.access = .opened) : s.ml.access ≠ .closed ∧ s.ml.access ≠ .limited := by
      rw [haccess]
      exact ⟨nofun, nofun⟩
    refine ⟨fun haccess => ?_, fun haccess hinit => ?_, fun haccess hready => ?_⟩
    · rw [hanswers (by rw [haccess]; nofun), if_pos haccess]
      rfl
    · rw [hanswers (hopen haccess).1, if_neg (hopen haccess).2, if_pos hinit]
      rfl
    · rw [hanswers (hopen haccess).1, if_neg (hopen haccess).2, if_neg hready]
      rfl
  case effects =>
    intro u v w
    have hballot : u.ballot = s.ballot := by simp [u]
    have hcancel : u.cancelDisallowed .halted = v := by
      rw [State.cancelDisallowed, hballot] <;> rfl
    obtain ⟨htb, hflag⟩ := cancelDisallowed_frame_tb .halted u
    have htb' : v.tb = s.tb := by
      rw [← hcancel, htb]
      simp [u]
    have hflag' : v.switchPending = s.switchPending := by
      rw [← hcancel, hflag]
      simp [u]
    have hcycle : v.tb.cycleNumber = s.tb.cycleNumber := by rw [htb']
    have hdrop : v.dropSwitch = w := by rw [dropSwitch_eq, hcycle, hflag']
    rw [freezeExchange_eq hx, ← hdrop, ← hcancel]
  · exact fun ⟨n, i, hhold⟩ hfilling => freezeAborts_runtime_staging hrt hok hhold hfilling
  · exact fun ⟨n, hhold⟩ hblocked => freezeAborts_runtime_waiting hrt hhold hblocked
  · apply State.ext <;> simp

/-! ## PORT RESET (R94, R123, R168) -/

section PortReset

variable {s : State} {n : Port}

theorem exec_portReset {p1 p2 p3 hc : Byte} (hl : s.live = true)
    (hp : (s.port n).parser = .payload ⟨0x4F, p1, p2, p3, hc⟩) :
    exec (.portReset n) s = .next ((s.resetPort n).endFrame n .ok 0) :=
  writeKind_of_frame none (s.resetPort n) (writeFrameOn_nil (params := []) hl hp rfl rfl)

/-- PORT RESET's transfers are those of its abort. -/
theorem resetPort_transfers :
    (s.resetPort n).lanes = (s.portResetAbort n).lanes ∧ (s.resetPort n).runtimes = (s.portResetAbort n).runtimes := by
  simp [State.resetPort]

theorem withdrawVote_ballot (u : State) :
    (u.withdrawVote n).ballot = if u.members.getLsbD n.val = true then
      { u.ballot with current := u.ballot.current.map fun b => { b with votes := b.votes.set n Vote.none } }
      else u.ballot := by
  unfold State.withdrawVote State.isMember
  cases hb : u.ballot.current with
  | none =>
    have hsame : ({ u.ballot with current := none } : BallotRecord) = u.ballot := by rw [← hb]
    simp [hsame]
  | some b =>
    dsimp only
    split <;> rfl

/-- The abort of a lane that holds no FETCH. -/
theorem portResetAbort_of_not_fetch (h : (s.lane (laneOf n)).hold.isFetch = false) :
    s.portResetAbort n = (s.stageAbortClaim (laneOf n)).endTransfer (laneOf n) .none := by
  unfold State.portResetAbort
  cases hh : (s.lane (laneOf n)).hold with
  | fetching r i b =>
    rw [hh] at h
    nomatch h
  | idle => rfl
  | waiting r => rfl
  | staging r i => rfl

theorem portResetAbort_of_fetch {r : RecNo} {i : Nat} {b : Buf} (h : (s.lane (laneOf n)).hold = .fetching r i b) :
    s.portResetAbort n = (s.endTransfer (laneOf n) .none).unpinClaim r b := by
  rw [State.portResetAbort, h]

/-- The reset lane is IDLE with result NONE; an unpin claim starts no STAGE on it, since it no longer waits. -/
theorem portResetAbort_lane_self : (s.portResetAbort n).lane (laneOf n) = ⟨.idle, .none⟩ := by
  have hended (u : State) : (u.endTransfer (laneOf n) .none).lane (laneOf n) = ⟨.idle, .none⟩ := by
    rw [endTransfer_lane, if_pos rfl]
  cases hf : (s.lane (laneOf n)).hold.isFetch with
  | false => rw [portResetAbort_of_not_fetch hf, hended]
  | true =>
    unfold State.portResetAbort
    split
    · next r i b _ =>
      rcases unpinClaim_lane (s.endTransfer (laneOf n) .none) (laneOf n) r b with hsame | ⟨hwait, _⟩
      · rw [hsame, hended]
      · rw [hended] at hwait
        nomatch hwait
    all_goals exact hended _

variable (hnot : (s.lane (laneOf n)).hold.isFetch = false)
include hnot

theorem portResetAbort_lane_other {l : LaneNo} (h : l ≠ laneOf n) : (s.portResetAbort n).lane l = s.lane l := by
  rw [portResetAbort_of_not_fetch hnot, endTransfer_lane, if_neg h]
  simp [State.lane]

theorem portResetAbort_runtime (r : RecNo) :
    (s.portResetAbort n).runtime r = (s.runtime r).map ((s.lane (laneOf n)).hold.abortOn r) := by
  rw [portResetAbort_of_not_fetch hnot, ← stageAbortClaim_runtime]
  rfl

/-- A record on which the lane holds no STAGE keeps its runtime. -/
theorem portResetAbort_runtime_other {r : RecNo} (h : (s.lane (laneOf n)).hold.record ≠ some r) :
    (s.portResetAbort n).runtime r = s.runtime r := by
  have hid : (s.lane (laneOf n)).hold.abortOn r = id := by
    funext x
    cases hh : (s.lane (laneOf n)).hold with
    | staging q i => exact if_neg fun e => h (by rw [hh, e]; rfl)
    | waiting q => exact if_neg fun e => h (by rw [hh, e]; rfl)
    | idle => rfl
    | fetching q i b => rfl
  rw [portResetAbort_runtime hnot, hid, Option.map_id_apply]

end PortReset

/-- Settles O33: the port and the ballot by their own parts, the lanes and the runtimes by what the lane holds. -/
theorem portResetResetsItsPort : Obligations.PortResetResetsItsPort := by
  unfold Obligations.PortResetResetsItsPort
  intro n p1 p2 p3 hc s hl hp
  obtain ⟨hlanes, hruntimes⟩ := resetPort_transfers (s := s) (n := n)
  refine ⟨(s.resetPort n).endFrame n .ok 0, exec_portReset hl hp, ?_, ?port, fun m hm => ?_, ?ballot, fun hidle => ?idle,
    fun r i hhold => ?staging, fun r hhold => ?waiting, fun r i b hhold => ?fetching, ?_⟩
  · exact (congrArg (fun v => v[laneOf n]) hlanes).trans portResetAbort_lane_self
  case port =>
    rw [State.endFrame, modPort_port, if_pos rfl, resetPort_port, if_pos rfl]
    rfl
  · rw [State.endFrame, modPort_port, if_neg hm, resetPort_port, if_neg hm]
  case ballot =>
    refine (withdrawVote_ballot _).trans ?_
    simp
  case idle =>
    have hnot : (s.lane (laneOf n)).hold.isFetch = false := by rw [hidle]; rfl
    refine ⟨hruntimes.trans (runtimes_ext fun r => ?_), fun l h => ?_⟩
    · exact portResetAbort_runtime_other hnot (by rw [hidle]; nofun)
    · exact (congrArg (fun v => v[l]) hlanes).trans (portResetAbort_lane_other hnot h)
  case staging =>
    have hnot : (s.lane (laneOf n)).hold.isFetch = false := by rw [hhold]; rfl
    have hrun (q : RecNo) : ((s.resetPort n).endFrame n .ok 0).runtime q = (s.portResetAbort n).runtime q :=
      congrArg (fun v => v[q]) hruntimes
    refine ⟨fun rt hrt hfilling => ?_, fun r' hr' => ?_, fun l h => ?_⟩
    · rw [hrun, portResetAbort_runtime hnot, hhold, hrt, Option.map_some]
      exact congrArg some ((if_pos rfl).trans (if_pos hfilling))
    · rw [hrun]
      exact portResetAbort_runtime_other hnot (by rw [hhold]; exact fun e => hr' (Option.some.inj e).symm)
    · exact (congrArg (fun v => v[l]) hlanes).trans (portResetAbort_lane_other hnot h)
  case waiting =>
    have hnot : (s.lane (laneOf n)).hold.isFetch = false := by rw [hhold]; rfl
    have hrun (q : RecNo) : ((s.resetPort n).endFrame n .ok 0).runtime q = (s.portResetAbort n).runtime q :=
      congrArg (fun v => v[q]) hruntimes
    refine ⟨fun rt hrt => ?_, fun r' hr' => ?_, fun l h => ?_⟩
    · rw [hrun, portResetAbort_runtime hnot, hhold, hrt, Option.map_some]
      exact congrArg some (if_pos rfl)
    · rw [hrun]
      exact portResetAbort_runtime_other hnot (by rw [hhold]; exact fun e => hr' (Option.some.inj e).symm)
    · exact (congrArg (fun v => v[l]) hlanes).trans (portResetAbort_lane_other hnot h)
  case fetching =>
    rw [← portResetAbort_of_fetch hhold]
    exact ⟨hruntimes, hlanes⟩
  · apply State.ext <;> simp [State.resetPort]

end Sys2Proof.Machine

/-! # The arbiter, word accesses, ends of transfers and the unpin claim (R19, R27, R30, R34, R82, R85, R86, R89, R90) -/

namespace Sys2Proof.Machine

/-! ## The arbiter (R82) -/

theorem grantOrder_getElem (last : LaneNo) (k : Fin 5) : (grantOrder last)[k.val] = last + 1 + k := by
  revert last k
  decide

theorem stgBuf_isSome {rt : Runtime} : rt.stgBuf.isSome = true ↔ ∃ b : Buf, rt.roles[b] = .stg := by
  simp only [Runtime.stgBuf, List.find?_isSome, mem_allBuffers, true_and, decide_eq_true_eq]

theorem portOf_isSome {l : LaneNo} : (portOf l).isSome = true ↔ ∃ n : Port, l = laneOf n := by
  revert l
  decide

section Arbiter

variable (s : State) (l : LaneNo)

theorem nextGrant_eq_some : s.nextGrant = some l ↔
    s.wantsAccess l = true ∧
      ∃ k : Fin 5, l = s.arbiter + 1 + k ∧ ∀ j : Fin 5, j < k → s.wantsAccess (s.arbiter + 1 + j) = false := by
  rw [State.nextGrant, List.find?_eq_some_iff_getElem]
  refine and_congr_right fun _ => ⟨fun ⟨i, hi, heq, hbefore⟩ => ?_, fun ⟨k, heq, hbefore⟩ => ?_⟩
  · refine ⟨⟨i, hi⟩, ?_, fun j hj => ?_⟩
    · rw [← heq]
      exact grantOrder_getElem s.arbiter ⟨i, hi⟩
    · have h := hbefore j.val hj
      rwa [grantOrder_getElem, Bool.not_eq_true'] at h
  · refine ⟨k.val, k.isLt, ?_, fun j hj => ?_⟩
    · exact (grantOrder_getElem s.arbiter k).trans heq.symm
    · have h := hbefore ⟨j, by omega⟩ hj
      rw [Bool.not_eq_true', ← h]
      exact congrArg s.wantsAccess (grantOrder_getElem s.arbiter ⟨j, by omega⟩)

/-- The lanes with a word left: an ACTIVE STAGE with a STG buffer, and an ACTIVE FETCH (log entry 11). -/
theorem wantsAccess_iff : s.wantsAccess l = true ↔
    (∃ (n : Port) (r : RecNo) (i : Nat) (d : RecordDef) (rt : Runtime) (b : Buf), l = laneOf n
        ∧ (s.lane l).hold = .staging r i ∧ s.activeDef r = some d ∧ i < d.length
        ∧ s.runtime r = some rt ∧ rt.roles[b] = .stg)
      ∨ ∃ (r : RecNo) (i : Nat) (b : Buf) (d : RecordDef),
          (s.lane l).hold = .fetching r i b ∧ s.activeDef r = some d ∧ i < d.length := by
  unfold State.wantsAccess
  cases hh : (s.lane l).hold with
  | idle =>
    refine ⟨nofun, ?_⟩
    rintro (⟨_, _, _, _, _, _, _, h, _⟩ | ⟨_, _, _, _, h, _⟩) <;> nomatch h
  | waiting r =>
    refine ⟨nofun, ?_⟩
    rintro (⟨_, _, _, _, _, _, _, h, _⟩ | ⟨_, _, _, _, h, _⟩) <;> nomatch h
  | staging r i =>
    simp only [Bool.and_eq_true, portOf_isSome, Option.any_eq_true, decide_eq_true_eq]
    constructor
    · rintro ⟨⟨⟨d, hd, hi⟩, hbuf⟩, n, hn⟩
      cases hrt : s.runtime r with
      | none =>
        rw [hrt] at hbuf
        nomatch hbuf
      | some rt =>
        rw [hrt, Option.bind_some, stgBuf_isSome] at hbuf
        obtain ⟨b, hb⟩ := hbuf
        exact .inl ⟨n, r, i, d, rt, b, hn, rfl, hd, hi, hrt, hb⟩
    · rintro (⟨n, q, j, d, rt, b, hn, h, hd, hi, hrt, hb⟩ | ⟨_, _, _, _, h, _⟩)
      · cases h
        rw [hrt, Option.bind_some, stgBuf_isSome]
        exact ⟨⟨⟨d, hd, hi⟩, b, hb⟩, n, hn⟩
      · nomatch h
  | fetching r i b =>
    simp only [Option.any_eq_true, decide_eq_true_eq]
    constructor
    · rintro ⟨d, hd, hi⟩
      exact .inr ⟨r, i, b, d, rfl, hd, hi⟩
    · rintro (⟨_, _, _, _, _, _, _, h, _⟩ | ⟨q, j, c, d, h, hd, hi⟩)
      · nomatch h
      · cases h
        exact ⟨d, hd, hi⟩

/-- A lane that has a word left has its index below the length. -/
theorem index_lt_of_wantsAccess {r : RecNo} {i : Nat} {d : RecordDef} (h : s.wantsAccess l = true)
    (hhold : (s.lane l).hold.index = some (r, i)) (hd : s.activeDef r = some d) : i < d.length := by
  rcases (wantsAccess_iff s l).mp h with ⟨_, q, j, e, _, _, _, hh, he, hj, _⟩ | ⟨q, j, _, e, hh, he, hj⟩
  · rw [hh] at hhold
    cases hhold
    obtain rfl := Option.some.inj (he.symm.trans hd)
    exact hj
  · rw [hh] at hhold
    cases hhold
    obtain rfl := Option.some.inj (he.symm.trans hd)
    exact hj

end Arbiter

/-- Settles O34: the grant is the first in its order, whose k-th lane follows the lane granted last by k + 1. -/
theorem arbiterGrantsInCyclicOrder : Obligations.ArbiterGrantsInCyclicOrder := by
  unfold Obligations.ArbiterGrantsInCyclicOrder
  refine ⟨nextGrant_eq_some, fun s hnone => ?_, wantsAccess_iff⟩
  have hgrant : s.nextGrant = none := List.find?_eq_none.mpr fun l _ => by rw [hnone]; nofun
  change execWordAccess s = _
  rw [execWordAccess, hgrant, ite_self]

end Sys2Proof.Machine

/-! # Word accesses and ends of transfers -/

namespace Sys2Proof.Machine

/-! ## Ends of transfers (R27, R85, R89, R90) -/

section Ends

variable {s : State} {r : RecNo} {i : Nat}

/-- The end of a STAGE makes its record READY (R85). -/
theorem completeLane_of_staging {n : Port} {rt : Runtime} (hhold : (s.lane (laneOf n)).hold = .staging r i)
    (hrt : s.runtime r = some rt) (hfilling : rt.staging = .filling) :
    s.completeLane n
      = { s with lanes := s.lanes.set (laneOf n) ⟨.idle, .ok⟩,
                 runtimes := s.runtimes.set r (some { rt with staging := .ready }) }.withPort n
          { s.port n with xfer := true } := by
  have hready : rt.stageEnd = { rt with staging := .ready } := if_pos hfilling
  have hruntime : ((s.endTransfer (laneOf n) .ok).setXfer n).runtime r = some rt := hrt
  rw [State.completeLane, hhold]
  dsimp only
  rw [State.modRuntime, hruntime]
  dsimp only
  rw [hready]
  rfl

/-- The end of a FETCH makes its descriptor VALID and hands its unpin claim (R89). -/
theorem completeLane_of_fetching {n : Port} {b : Buf} (hhold : (s.lane (laneOf n)).hold = .fetching r i b) :
    s.completeLane n
      = ({ s with lanes := s.lanes.set (laneOf n) ⟨.idle, .ok⟩ }.withPort n
          { s.port n with xfer := true, desc := { (s.port n).desc with state := .valid } }).unpinClaim r b := by
  have hport (u : State) : (u.setXfer n).setDescState n .valid
      = u.withPort n { u.port n with xfer := true, desc := { (u.port n).desc with state := .valid } } :=
    (modPort_modPort u n _ _).trans (modPort_eq_withPort u n _)
  rw [State.completeLane, hhold]
  dsimp only
  rw [hport]
  rfl

/-- The end of LM's fetch is reported to the maintenance line (R90). -/
theorem completeLm_of_fetching {b : Buf} (hhold : (s.lane lm).hold = .fetching r i b) :
    s.completeLm
      = { s with lanes := s.lanes.set lm ⟨.idle, .ok⟩,
                 ml := { s.ml with dataPeek :=
                    s.ml.dataPeek.map fun (p : DataPeek) => { p with status := .completed } } }.unpinClaim r b := by
  rw [State.completeLm, hhold]
  rfl

/-- A transfer is done when its index has reached the length. -/
theorem transferDone_eq {l : LaneNo} {d : RecordDef} (hhold : (s.lane l).hold.index = some (r, i))
    (hd : s.activeDef r = some d) : s.transferDone l = decide (d.length ≤ i) := by
  unfold State.transferDone
  cases hh : (s.lane l).hold with
  | idle =>
    rw [hh] at hhold
    nomatch hhold
  | waiting q =>
    rw [hh] at hhold
    nomatch hhold
  | staging q j =>
    rw [hh] at hhold
    cases hhold
    dsimp only
    rw [hd]
    rfl
  | fetching q j b =>
    rw [hh] at hhold
    cases hhold
    dsimp only
    rw [hd]
    rfl

end Ends

/-! ## One word (R82) -/

section Access

variable {s : State} {l : LaneNo} {r : RecNo} {i : Nat} {d : RecordDef}

theorem exec_wordAccess_of_grant {a : Nat} {u : State} (hl : s.live = true) (hgrant : s.nextGrant = some l)
    (haccess : s.access l = some (a, u)) (ha : a < Config.storeWords) :
    exec .wordAccess s = .next ((u.setArbiter l).endIfDone l) := by
  change execWordAccess s = _
  rw [execWordAccess, hl, if_pos rfl, hgrant]
  dsimp only
  rw [haccess]
  exact if_pos ha

theorem access_of_staging {n : Port} {rt : Runtime} {b : Buf} (hn : l = laneOf n)
    (hhold : (s.lane l).hold = .staging r i) (hd : s.activeDef r = some d) (hrt : s.runtime r = some rt)
    (hb : rt.stgBuf = some b) : s.access l = some (d.address b i, s.stageWord l n r i (d.address b i)) := by
  rw [State.access, hhold]
  dsimp only
  rw [hd, hrt, Option.bind_some, hb, hn, portOf_laneOf]

theorem access_of_fetching {b : Buf} (hhold : (s.lane l).hold = .fetching r i b) (hd : s.activeDef r = some d) :
    s.access l = some (d.address b i, s.fetchWord l r i b (d.address b i)) := by
  rw [State.access, hhold]
  dsimp only
  rw [hd]

theorem windowSet_eq_ofFn (w : Vector Word 32) (o : Nat) (x : Word) :
    windowSet w o x = Vector.ofFn fun j : Fin 32 => if j.val = o then x else w[j] := by
  refine Vector.ext fun j hj => ?_
  rw [windowSet_getElem _ _ _ hj, Vector.getElem_ofFn]
  simp only [eq_comm, Fin.getElem_fin]

theorem windowWord_eq (w : Vector Word 32) (j : Nat) : windowWord w j = w.toList.getD j 0 := by
  simp [windowWord, List.getD_eq_getElem?_getD]

/-- An index below the length addresses a word of the group, inside the store. -/
theorem address_lt {b : Buf} (hi : i < d.length) (hgroup : d.base + 3 * d.length ≤ 8192) :
    d.address b i < Config.storeWords := (address_mem_group b hi).2.trans_le hgroup

theorem lane_of_set {u : State} {x : Lane} (h : u.lanes = s.lanes.set l x) : u.lane l = x := by
  simp [State.lane, h]

/-- The end of a transfer with a word left changes nothing. -/
theorem endIfDone_of_lt {u : State} (hhold : (u.lane l).hold.index = some (r, i)) (hd : u.activeDef r = some d)
    (hi : i < d.length) : u.endIfDone l = u :=
  endIfDone_of_not u l (by rw [transferDone_eq hhold hd, decide_eq_false hi.not_ge])

end Access

section Granted

variable {s : State} {l : LaneNo} {r : RecNo} {i : Nat} {d : RecordDef} (hl : s.live = true)
  (hgrant : s.nextGrant = some l) (hd : s.activeDef r = some d) (hgroup : d.base + 3 * d.length ≤ 8192)
include hl hgrant hd hgroup

/-- The word of a STAGE (R19, R82), and its end with the last one (R85). -/
theorem exec_wordAccess_staging {n : Port} {rt : Runtime} {b : Buf} (hn : l = laneOf n)
    (hhold : (s.lane l).hold = .staging r i) (hrt : s.runtime r = some rt) (hb : rt.stgBuf = some b) :
    let u := (s.stageWord l n r i (d.address b i)).setArbiter l
    i < d.length ∧ (i + 1 < d.length → exec .wordAccess s = .next u)
      ∧ (d.length ≤ i + 1 → rt.staging = .filling → exec .wordAccess s = .next
          ({ u with lanes := u.lanes.set l ⟨.idle, .ok⟩,
                    runtimes := u.runtimes.set r (some { rt with staging := .ready }) }.withPort n
            { u.port n with xfer := true })) := by
  intro u
  have hi : i < d.length :=
    index_lt_of_wantsAccess s l (wantsAccess_of_nextGrant hgrant) (by rw [hhold]; rfl) hd
  have hexec := exec_wordAccess_of_grant hl hgrant (access_of_staging hn hhold hd hrt hb) (address_lt hi hgroup)
  have hhold' : (u.lane l).hold = .staging r (i + 1) := congrArg Lane.hold (lane_of_set (s := s) (u := u) rfl)
  have hindex : (u.lane l).hold.index = some (r, i + 1) := by rw [hhold']; rfl
  refine ⟨hi, fun hlt => ?_, fun hlast hfilling => ?_⟩
  · rw [hexec, endIfDone_of_lt hindex hd hlt]
  · have hdone : u.transferDone l = true := by rw [transferDone_eq hindex hd, decide_eq_true hlast]
    subst hn
    rw [hexec, endIfDone_port u n hdone, completeLane_of_staging hhold' hrt hfilling]

/-- The word of a port's FETCH (R82), and its end with the last one (R89). -/
theorem exec_wordAccess_fetching {n : Port} {b : Buf} (hn : l = laneOf n) (hhold : (s.lane l).hold = .fetching r i b) :
    let u := (s.fetchWord l r i b (d.address b i)).setArbiter l
    (i + 1 < d.length → exec .wordAccess s = .next u)
      ∧ (d.length ≤ i + 1 → exec .wordAccess s = .next
          (({ u with lanes := u.lanes.set l ⟨.idle, .ok⟩ }.withPort n
            { u.port n with xfer := true, desc := { (u.port n).desc with state := .valid } }).unpinClaim r b)) := by
  intro u
  have hi : i < d.length :=
    index_lt_of_wantsAccess s l (wantsAccess_of_nextGrant hgrant) (by rw [hhold]; rfl) hd
  have hexec := exec_wordAccess_of_grant hl hgrant (access_of_fetching hhold hd) (address_lt hi hgroup)
  obtain ⟨hframe, hactive, _⟩ := fetchWord_frame (s := s) l r i b (d.address b i)
  have hlanes : u.lanes = s.lanes.set l ⟨.fetching r (i + 1) b, (s.lane l).result⟩ := hframe
  have hhold' : (u.lane l).hold = .fetching r (i + 1) b := congrArg Lane.hold (lane_of_set (s := s) hlanes)
  have hindex : (u.lane l).hold.index = some (r, i + 1) := by rw [hhold']; rfl
  have hd' : u.activeDef r = some d := (congrArg (fun x : Image => x.defs[r]) hactive).trans hd
  refine ⟨fun hlt => ?_, fun hlast => ?_⟩
  · rw [hexec, endIfDone_of_lt hindex hd' hlt]
  · have hdone : u.transferDone l = true := by rw [transferDone_eq hindex hd', decide_eq_true hlast]
    subst hn
    rw [hexec, endIfDone_port u n hdone, completeLane_of_fetching hhold']

/-- The word of LM's fetch, and its end with the last one (R90). -/
theorem exec_wordAccess_lm {b : Buf} (hn : l = lm) (hhold : (s.lane l).hold = .fetching r i b) :
    let u := (s.fetchWord l r i b (d.address b i)).setArbiter l
    (i + 1 < d.length → exec .wordAccess s = .next u)
      ∧ (d.length ≤ i + 1 → exec .wordAccess s = .next
          ({ u with
              lanes := u.lanes.set l ⟨.idle, .ok⟩,
              ml := { u.ml with dataPeek :=
                u.ml.dataPeek.map fun (p : DataPeek) => { p with status := .completed } } }.unpinClaim r b)) := by
  intro u
  have hi : i < d.length :=
    index_lt_of_wantsAccess s l (wantsAccess_of_nextGrant hgrant) (by rw [hhold]; rfl) hd
  have hexec := exec_wordAccess_of_grant hl hgrant (access_of_fetching hhold hd) (address_lt hi hgroup)
  subst hn
  have hhold' : (u.lane lm).hold = .fetching r (i + 1) b := congrArg Lane.hold (lane_of_set (s := s) (u := u) rfl)
  have hindex : (u.lane lm).hold.index = some (r, i + 1) := by rw [hhold']; rfl
  refine ⟨fun hlt => ?_, fun hlast => ?_⟩
  · rw [hexec, endIfDone_of_lt hindex hd hlt]
  · have hdone : u.transferDone lm = true := by rw [transferDone_eq hindex hd, decide_eq_true hlast]
    rw [hexec, endIfDone_lm u hdone, completeLm_of_fetching hhold']

end Granted

/-- Settles O35: by what the granted lane holds, and by whether the word is its last. -/
theorem wordAccessMovesOneWord : Obligations.WordAccessMovesOneWord := by
  unfold Obligations.WordAccessMovesOneWord
  refine fun s l r i d hl hgrant hstore hd hgroup _ => ⟨fun n rt b hn hhold hrt hok hb => ?stage,
    fun n b hn hhold => ?fetch, fun b hn hhold => ?peek⟩
  case stage =>
    obtain ⟨hi, hmore, hlast⟩ := exec_wordAccess_staging hl hgrant hd hgroup hn hhold hrt (rt.stgBuf_eq b hok hb)
    refine ⟨_, rfl, ?_, fun a => ?_, hmore, hlast⟩
    · exact Memory.write_wf s.store _ _ hstore (address_lt hi hgroup)
    · rw [← windowWord_eq]
      exact Memory.read_write s.store _ a _ hstore
  case fetch =>
    have h := exec_wordAccess_fetching hl hgrant hd hgroup hn hhold
    have hword : (s.fetchWord l r i b (d.address b i)).setArbiter l = { s with
          arbiter := l, lanes := s.lanes.set l ⟨.fetching r (i + 1) b, (s.lane l).result⟩ }.withPort n
            { s.port n with
              readWindow := Vector.ofFn fun j : Fin 32 =>
                if j.val = i then s.store.read (d.base + b.val * d.length + i) else (s.port n).readWindow[j] } := by
      rw [← windowSet_eq_ofFn]
      subst hn
      rw [State.fetchWord, portOf_laneOf]
      rfl
    rw [hword] at h
    exact h
  case peek =>
    have h := exec_wordAccess_lm hl hgrant hd hgroup hn hhold
    have hword : (s.fetchWord l r i b (d.address b i)).setArbiter l = { s with
          arbiter := l, lanes := s.lanes.set l ⟨.fetching r (i + 1) b, (s.lane l).result⟩,
          ml := { s.ml with
            peekBuf := Vector.ofFn fun j : Fin 32 =>
              if j.val = i then s.store.read (d.base + b.val * d.length + i) else s.ml.peekBuf[j] } } := by
      rw [← windowSet_eq_ofFn]
      subst hn
      rfl
    rw [hword] at h
    exact h

/-! ## The unpin claim and the start of a waiting STAGE (R30, R34, R86) -/

section Unpin

variable {s : State} {r : RecNo} {b : Buf} {rt : Runtime}

theorem unpinFrees_iff : rt.unpinFrees b = true ↔
    rt.staging = .blocked ∧ rt.roles[b] = .retired ∧ rt.pins[b] ≤ 1 := by
  simp only [Runtime.unpinFrees, Bool.and_eq_true, decide_eq_true_eq, and_assoc]
  refine and_congr_right fun _ => and_congr_right fun _ => ?_
  omega

theorem unpin_of_not_frees (h : rt.unpinFrees b = false) : rt.unpin b = { rt with pins := rt.pins.set b (rt.pins[b] - 1) } := by
  rw [Runtime.unpin, h]
  rfl

theorem unpin_of_frees (h : rt.unpinFrees b = true) :
    rt.unpin b = { rt with
      pins := rt.pins.set b (rt.pins[b] - 1), roles := rt.roles.set b .stg, stageWaiting := false,
      staging := if rt.stageWaiting then .filling else .empty } := by
  rw [Runtime.unpin, h]
  rfl

theorem unpinClaim_eq {d : RecordDef} (hd : s.activeDef r = some d) (hrt : s.runtime r = some rt) :
    s.unpinClaim r b = if rt.unpinFrees b && rt.stageWaiting then
      (s.setRuntime r (rt.unpin b)).startWaiting (laneOf d.owner) r else s.setRuntime r (rt.unpin b) := by
  rw [State.unpinClaim, hrt, hd]

theorem startWaiting_of_waiting {l : LaneNo} (h : (s.lane l).hold = .waiting r) :
    s.startWaiting l r = { s with lanes := s.lanes.set l ⟨.staging r 0, (s.lane l).result⟩ } := if_pos h

/-- The lowest unpinned RETIRED buffer of a BLOCKED record whose STAGE waits. -/
theorem freedBuf_eq (hblocked : rt.staging = .blocked) (hwait : rt.stageWaiting = true)
    (hb : rt.roles[b] = .retired) (hpin : rt.pins[b] = 0)
    (hbefore : ∀ c : Buf, c < b → ¬ (rt.roles[c] = .retired ∧ rt.pins[c] = 0)) : rt.freedBuf = some b := by
  have hall (c : Fin 3) : allBuffers[c.val] = c := by
    revert c
    decide
  rw [Runtime.freedBuf, hblocked, hwait, if_pos (by rfl), List.find?_eq_some_iff_getElem]
  refine ⟨by rw [hb, hpin]; rfl, b.val, b.isLt, hall b, fun j hj => ?_⟩
  have hlt : j < 3 := by omega
  rw [hall ⟨j, hlt⟩, Bool.not_eq_true', ← Bool.not_eq_true, Bool.and_eq_true, decide_eq_true_eq, decide_eq_true_eq]
  exact hbefore ⟨j, hlt⟩ hj

end Unpin

/-- Settles O36: the ends by what the lane holds, the unpin claim by whether it frees, the start by the buffer it finds. -/
theorem transfersEndAndFreeBuffers : Obligations.TransfersEndAndFreeBuffers := by
  unfold Obligations.TransfersEndAndFreeBuffers
  refine ⟨fun s r i d rt hl hd hrt hdone => ⟨fun n hhold hfilling => ?stageEnd, fun n b hhold => ?fetchEnd,
    fun b hhold => ?lmEnd⟩, fun s r b d rt hd hrt hpin => ⟨fun hstays => ?_, fun hblocked hretired hone =>
      ⟨fun hwait => ?_, fun hwait hhold => ?_⟩⟩, fun s n r rt b hl hhold hrt hblocked hwait hb hzero hbefore => ?start⟩
  case stageEnd =>
    have hended : s.transferDone (laneOf n) = true := by
      rw [transferDone_eq (r := r) (i := i) (by rw [hhold]; rfl) hd, decide_eq_true hdone]
    change ifDue (s.live && (s.lane (laneOf n)).hold.isStage && s.transferDone (laneOf n)) s _ = _
    rw [hl, hhold, hended, completeLane_of_staging hhold hrt hfilling]
    rfl
  case fetchEnd =>
    have hended : s.transferDone (laneOf n) = true := by
      rw [transferDone_eq (r := r) (i := i) (by rw [hhold]; rfl) hd, decide_eq_true hdone]
    change ifDue (s.live && (s.lane (laneOf n)).hold.isFetch && s.transferDone (laneOf n)) s _ = _
    rw [hl, hhold, hended, completeLane_of_fetching hhold]
    rfl
  case lmEnd =>
    have hended : s.transferDone lm = true := by
      rw [transferDone_eq (r := r) (i := i) (by rw [hhold]; rfl) hd, decide_eq_true hdone]
    change ifDue (s.live && s.transferDone lm) s _ = _
    rw [hl, hended, completeLm_of_fetching hhold]
    rfl
  · have hnot : rt.unpinFrees b = false := by
      rw [← Bool.not_eq_true, unpinFrees_iff]
      rintro ⟨hblocked, hretired, hle⟩
      rcases hstays with h | h | h
      · exact h hblocked
      · exact h hretired
      · omega
    rw [unpinClaim_eq hd hrt, hnot, unpin_of_not_frees hnot]
    rfl
  · have hfrees := unpinFrees_iff.mpr ⟨hblocked, hretired, hone.le⟩
    rw [unpinClaim_eq hd hrt, hfrees, unpin_of_frees hfrees, hone, hwait]
    rfl
  · have hfrees := unpinFrees_iff.mpr ⟨hblocked, hretired, hone.le⟩
    rw [unpinClaim_eq hd hrt, hfrees, unpin_of_frees hfrees, hone, hwait, Bool.and_self, if_pos rfl, if_pos rfl,
      startWaiting_of_waiting (s := s.setRuntime r _) hhold]
    rfl
  case start =>
    have hstart : s.waitingStart n
        = some ((s.setRuntime r (rt.leaveBlocked b)).startWaiting (laneOf n) r) := by
      rw [State.waitingStart, hhold]
      dsimp only
      rw [hrt]
      dsimp only
      rw [freedBuf_eq hblocked hwait hb hzero hbefore]
      rfl
    change ifDue (s.live && (s.waitingStart n).isSome) s ((s.waitingStart n).getD s) = _
    rw [hl, hstart, startWaiting_of_waiting (s := s.setRuntime r _) hhold, Runtime.leaveBlocked, hwait]
    rfl

end Sys2Proof.Machine

/-! # The schedule switch, cycle starts and ticks (R39, R40, R105, R130 to R137, R142, R145) -/

namespace Sys2Proof.Machine

/-! ## The switch (R130 to R134, R137, R139) -/

section Switch

variable (s : State)

/-- A record defined in both images is kept where its owner, length and base stay (R130). -/
theorem classify_some_some (a b : RecordDef) : classify (some a) (some b)
    = if a.owner = b.owner ∧ a.length = b.length ∧ a.base = b.base then .kept else .reset := by
  simp only [classify, Bool.and_eq_true, decide_eq_true_eq, and_assoc]

/-- The runtime that a switch gives a record, by its two definitions (R130 to R133). -/
theorem recClass_runtime (r : RecNo) (x : Option Runtime) :
    (s.recClass r).runtime x = match s.activeDef r, s.shadowDef r with
      | some a, some b =>
        if a.owner = b.owner ∧ a.length = b.length ∧ a.base = b.base then x.map fun rt => { rt with missCount := 0 }
        else some Runtime.initial
      | none, some _ => some Runtime.initial
      | _, none => none := by
  unfold State.recClass
  cases s.activeDef r with
  | none => cases s.shadowDef r <;> rfl
  | some a =>
    cases s.shadowDef r with
    | none => rfl
    | some b =>
      dsimp only
      rw [classify_some_some]
      split <;> rfl

theorem switchAborts_iff (r : RecNo) : s.switchAborts r = true ↔
    match s.activeDef r, s.shadowDef r with
    | some a, some b => ¬ (a.owner = b.owner ∧ a.length = b.length ∧ a.base = b.base)
    | none, none => False
    | _, _ => True := by
  have hclass : s.switchAborts r = true
      ↔ classify (s.activeDef r) (s.shadowDef r) = .reset ∨ classify (s.activeDef r) (s.shadowDef r) = .dropped := by
    rw [State.switchAborts, Bool.or_eq_true, decide_eq_true_eq, decide_eq_true_eq]
    rfl
  rw [hclass]
  cases s.activeDef r with
  | none => cases s.shadowDef r <;> simp [classify]
  | some a =>
    cases s.shadowDef r with
    | none => simp [classify]
    | some b =>
      dsimp only
      rw [classify_some_some]
      by_cases h : a.owner = b.owner ∧ a.length = b.length ∧ a.base = b.base
      · simp [h]
      · simp [h]

/-- What a switch leaves on a port is the abort of its lane's transfer, if that ends (R92). -/
theorem aborted_of_ends (p : PortState) (h : Hold) (ends : Bool) :
    (if ends = true then p.aborted h else p)
      = { p with xfer := p.xfer || ends,
                 desc := if ends = true ∧ h.isFetch = true then { p.desc with state := .aborted } else p.desc } := by
  cases ends with
  | false => simp
  | true => simp [PortState.aborted]

theorem applySwitch_ml : s.applySwitch.ml = { s.ml with
    dataPeek := if (s.lane lm).hold.record.any s.switchAborts = true then s.ml.dataPeek.map fun d => { d with status := .aborted }
    else s.ml.dataPeek } := by
  have hml : s.applySwitch.ml = (s.abortLanes .abortedSwitch s.switchAborts).ml := by
    unfold State.applySwitch State.restartTimebase
    dsimp only
    split <;> simp [State.installShadow]
  rw [hml, abortLanes_ml]
  split <;> rfl

end Switch

/-- Settles O39: the blocks one by one, each from what the switch does to it. -/
theorem switchInstallsTheShadow : Obligations.SwitchInstallsTheShadow := by
  unfold Obligations.SwitchInstallsTheShadow
  refine ⟨fun s => ⟨s.applySwitch, rfl, applySwitch_active s, by simp, applySwitch_switchPending s,
    fun r => (applySwitch_runtime s r).trans (recClass_runtime s r _), applySwitch_lane s, ?tb, fun n => ?port,
    applySwitch_ml s, ?rest⟩, fun s => ⟨fun hl hpending hconfig => ?_, fun hconfig => ?_⟩, switchAborts_iff⟩
  case tb => rw [applySwitch_timebase, fresh_eq]
  case port => rw [applySwitch_port, aborted_of_ends]
  case rest => apply State.ext <;> simp
  · change ifDue (s.live && s.switchDue) s _ = _
    rw [hl, State.switchDue, hpending, decide_eq_true hconfig]
    rfl
  · change ifDue (s.live && s.switchDue) s _ = _
    rw [State.switchDue, decide_eq_false hconfig, Bool.and_false, Bool.and_false]
    rfl

/-! ## Cycle starts (R105, R142, R145) -/

/-- No item is allowed in STOPPING (R114). -/
theorem not_allowedIn_stopping (i : Item) : i.allowedIn .stopping = false := by cases i <;> rfl

/-- What ARMED or HOLD allows, RUN allows (R114). -/
theorem allowedIn_run_of_armed {i : Item} (h : i.allowedIn .armed = true) : i.allowedIn .run = true := by
  revert h
  cases i <;> decide

theorem allowedIn_run_of_hold {i : Item} (h : i.allowedIn .hold = true) : i.allowedIn .run = true := by
  revert h
  cases i <;> decide

section CycleStart

variable {s : State} (hb : ∀ b, s.ballot.current = some b → b.item.allowedIn s.exchange = true)
include hb

/-- In STOPPING no ballot is open, so leaving it cancels none. -/
theorem changeExchange_of_stopping (h : s.exchange = .stopping) (x : ExState) : s.changeExchange x = s.movedTo x :=
  changeExchange_of_allowed s x fun b hcurrent => by
    have hallowed := hb b hcurrent
    rw [h, not_allowedIn_stopping] at hallowed
    nomatch hallowed

/-- The move of a cycle start, none of which cancels a ballot (R105). -/
theorem cycleStartMove_eq :
    s.cycleStartMove = if s.exchange = .stopping then s.movedTo .config
      else if s.exchange = .armed ∧ (s.tb.discipline = .master ∨ s.tb.discipline = .locked) then s.movedTo .run
      else if s.exchange = .hold ∧ s.tb.discipline = .locked then s.movedTo .run else s := by
  unfold State.cycleStartMove
  cases hx : s.exchange with
  | stopping => exact changeExchange_of_stopping hb hx .config
  | armed =>
    have hrun : s.changeExchange .run = s.movedTo .run :=
      changeExchange_of_allowed s .run fun b hcurrent => allowedIn_run_of_armed (hx ▸ hb b hcurrent)
    simp [hrun]
  | hold =>
    have hrun : s.changeExchange .run = s.movedTo .run :=
      changeExchange_of_allowed s .run fun b hcurrent => allowedIn_run_of_hold (hx ▸ hb b hcurrent)
    simp [hrun]
  | init => simp
  | config => simp
  | run => simp
  | halted => simp

end CycleStart

theorem switchesAtCycleStart_iff (x : ExState) :
    x.switchesAtCycleStart = true ↔ x = .armed ∨ x = .run ∨ x = .hold ∨ x = .stopping := by cases x <;> decide

theorem drivesSyncOut_eq (d : Discipline) :
    d.drivesSyncOut = decide (d = .master ∨ d = .locked ∨ d = .holdover) := by cases d <;> decide

/-- The work on a cycle start, in its order: the switch leaves the exchange state, the ballot and, outside CONFIG, the Timebase, so the
move is the one of the state that was found (R105). -/
theorem cycleStartWork_eq {u : State} (hb : ∀ b, u.ballot.current = some b → b.item.allowedIn u.exchange = true) :
    let v := if u.switchPending = true
        ∧ (u.exchange = .armed ∨ u.exchange = .run ∨ u.exchange = .hold ∨ u.exchange = .stopping) then u.applySwitch else u
    u.cycleStartWork = if u.exchange = .stopping then v.movedTo .config
      else if u.exchange = .armed ∧ (u.tb.discipline = .master ∨ u.tb.discipline = .locked) then v.movedTo .run
      else if u.exchange = .hold ∧ u.tb.discipline = .locked then v.movedTo .run else v := by
  intro v
  have hv : (if u.switchPending && u.exchange.switchesAtCycleStart then u.applySwitch else u) = v := by
    simp only [v, Bool.and_eq_true, switchesAtCycleStart_iff]
  have hsame : v.exchange = u.exchange ∧ v.ballot = u.ballot ∧ v.tb = u.tb := by
    by_cases h : u.switchPending = true
        ∧ (u.exchange = .armed ∨ u.exchange = .run ∨ u.exchange = .hold ∨ u.exchange = .stopping)
    · have hconfig : u.exchange ≠ .config := by
        obtain ⟨_, h | h | h | h⟩ := h <;> rw [h] <;> nofun
      have happlied : v = u.applySwitch := if_pos h
      rw [happlied]
      exact ⟨by simp, by simp, applySwitch_tb u hconfig⟩
    · have hkept : v = u := if_neg h
      rw [hkept]
      exact ⟨rfl, rfl, rfl⟩
  obtain ⟨hexchange, hballot, htb⟩ := hsame
  rw [State.cycleStartWork, hv, cycleStartMove_eq (by rw [hexchange, hballot]; exact hb), hexchange, htb]

/-- Settles O40: the Timebase's part of the step, then the Exchange Controller's; the pulse's end by when it is due. -/
theorem cycleStartDoesItsWorkInOrder : Obligations.CycleStartDoesItsWorkInOrder := by
  unfold Obligations.CycleStartDoesItsWorkInOrder
  refine ⟨fun s hl hrun hhanded hlast hballot => ?start, fun s => ⟨fun hl hout hhanded hage => ?_, fun hnot => ?_⟩⟩
  case start =>
    intro drives u v
    obtain ⟨hopen, _⟩ := hballot
    have hu : s.setTb (s.tb.nextCycle s.tb.nextCredit) = u := by
      rw [Timebase.nextCycle, drivesSyncOut_eq]
      rfl
    have hdue : (s.counting && s.tb.tickHanded && decide (s.active.header.cycleTicks ≤ s.tb.tickCount + 1)) = true := by
      rw [State.counting, hl, hrun, hhanded, decide_eq_true hlast]
      rfl
    change ifDue (s.counting && s.tb.tickHanded && decide (s.active.header.cycleTicks ≤ s.tb.tickCount + 1)) s _ = _
    rw [hdue, ifDue_true, hu, cycleStartWork_eq (u := u) fun b hcurrent => (hopen b hcurrent).1]
  · change ifDue s.pulseEndDue s _ = _
    rw [(pulseEndDue_iff s).mpr ⟨hl, hout, hhanded, hage⟩]
    rfl
  · have hdue : s.pulseEndDue = false := by
      rw [← Bool.not_eq_true, pulseEndDue_iff]
      rintro ⟨_, hout, hhanded, hage⟩
      rcases hnot with h | h | h
      · rw [hout] at h
        nomatch h
      · rw [hhanded] at h
        nomatch h
      · omega
    change ifDue s.pulseEndDue s _ = _
    rw [hdue]
    rfl

/-! ## The points of a tick (R39, R40, R43, R46, R47, R52) -/

/-- Record r's point is taken at the tick in progress. -/
def State.takesPoint (s : State) (d : RecordDef) : Bool :=
  decide (s.exchange = .run ∨ s.exchange = .stopping) && d.selectedAt s.tb.tickCount s.tb.cycleNumber

/-- Record r's runtime after its point, where it is taken. -/
def State.pointed (s : State) (r : RecNo) : Option Runtime :=
  match s.activeDef r, s.runtime r with
  | some d, some rt => some (if s.takesPoint d = true then pointRuntime d rt s.tb.cycleNumber else rt)
  | _, x => x

/-- The entries of record r's point for port n, where it is taken. -/
def State.entriesOf (s : State) (n : Port) (r : RecNo) : List Entry :=
  match s.activeDef r, s.runtime r with
  | some d, some rt => if s.takesPoint d = true then pointEntries r d rt s.tb.cycleNumber n else []
  | _, _ => []

/-- One record's part in a tick. -/
def State.handPoint (s : State) (r : RecNo) : State :=
  if s.exchange.takesPoints && s.selectsPoint r then s.takePoint r else s

theorem takePoints_eq (s : State) : s.takePoints = allRecords.foldl State.handPoint s := rfl

section OnePoint

variable (s : State) (r : RecNo)

theorem handPoint_frame :
    (s.handPoint r).activeDef = s.activeDef ∧ (s.handPoint r).exchange = s.exchange ∧ (s.handPoint r).tb = s.tb
      ∧ (s.handPoint r).active = s.active := by
  have hdef {u : State} (h : u.active = s.active) : u.activeDef = s.activeDef := by
    funext q
    rw [State.activeDef, State.activeDef, h]
  unfold State.handPoint
  split
  · exact ⟨hdef (by simp), by simp, by simp, by simp⟩
  · exact ⟨rfl, rfl, rfl, rfl⟩

theorem handPoint_condition {d : RecordDef} (hd : s.activeDef r = some d) :
    (s.exchange.takesPoints && s.selectsPoint r) = s.takesPoint d := by
  have htakes : s.exchange.takesPoints = decide (s.exchange = .run ∨ s.exchange = .stopping) := by
    rw [Bool.eq_iff_iff, takesPoints_iff, decide_eq_true_eq]
  rw [htakes, State.selectsPoint, hd]
  rfl

/-- A record without definition or without runtime takes no point. -/
theorem handPoint_of_absent (h : s.activeDef r = none ∨ s.runtime r = none) : s.handPoint r = s := by
  have hsame : s.takePoint r = s := by
    unfold State.takePoint
    rcases h with h | h
    · rw [h]
    · rw [h]
      cases s.activeDef r <;> rfl
  rw [State.handPoint, hsame, ite_self]

theorem pointed_of_absent (h : s.activeDef r = none ∨ s.runtime r = none) : s.pointed r = s.runtime r := by
  unfold State.pointed
  rcases h with h | h
  · rw [h]
  · rw [h]
    cases s.activeDef r <;> rfl

theorem entriesOf_of_absent (n : Port) (h : s.activeDef r = none ∨ s.runtime r = none) : s.entriesOf n r = [] := by
  unfold State.entriesOf
  rcases h with h | h
  · rw [h]
  · rw [h]
    cases s.activeDef r <;> rfl

theorem pointed_of_some {d : RecordDef} {rt : Runtime} (hd : s.activeDef r = some d) (hrt : s.runtime r = some rt) :
    s.pointed r = some (if s.takesPoint d = true then pointRuntime d rt s.tb.cycleNumber else rt) := by
  rw [State.pointed, hd, hrt]

theorem entriesOf_of_some (n : Port) {d : RecordDef} {rt : Runtime} (hd : s.activeDef r = some d)
    (hrt : s.runtime r = some rt) :
    s.entriesOf n r = if s.takesPoint d = true then pointEntries r d rt s.tb.cycleNumber n else [] := by
  rw [State.entriesOf, hd, hrt]

theorem handPoint_of_some {d : RecordDef} (hd : s.activeDef r = some d) :
    s.handPoint r = if s.takesPoint d = true then s.takePoint r else s := by
  rw [State.handPoint, handPoint_condition s r hd]

/-- A record is absent from the table, or has a definition and a runtime. -/
theorem absent_or_some :
    (s.activeDef r = none ∨ s.runtime r = none) ∨ ∃ d rt, s.activeDef r = some d ∧ s.runtime r = some rt := by
  cases hd : s.activeDef r with
  | none => exact .inl (.inl rfl)
  | some d =>
    cases hrt : s.runtime r with
    | none => exact .inl (.inr rfl)
    | some rt => exact .inr ⟨d, rt, rfl, rfl⟩

theorem handPoint_runtime (q : RecNo) : (s.handPoint r).runtime q = if q = r then s.pointed r else s.runtime q := by
  rcases absent_or_some s r with habsent | ⟨d, rt, hd, hrt⟩
  · rw [handPoint_of_absent s r habsent, pointed_of_absent s r habsent]
    split
    · next h => rw [h]
    · rfl
  · rw [handPoint_of_some s r hd, pointed_of_some s r hd hrt]
    split
    · rw [takePoint_runtime s r q d rt hd hrt]
    · split
      · next h => rw [h, hrt]
      · rfl

theorem handPoint_port (n : Port) (ht : s.TableOk) :
    (s.handPoint r).port n = (s.entriesOf n r).foldl PortState.accept (s.port n) := by
  rcases absent_or_some s r with habsent | ⟨d, rt, hd, hrt⟩
  · rw [handPoint_of_absent s r habsent, entriesOf_of_absent s r n habsent]
    rfl
  · obtain ⟨⟨hactive, _⟩, _⟩ := ht
    obtain ⟨_, _, _, _, _, _, _, _, _, howner⟩ := d.inRange_iff.mp (hactive r d hd)
    rw [handPoint_of_some s r hd, entriesOf_of_some s r n hd hrt]
    split
    · rw [takePoint_port s r d rt n hd hrt howner]
    · rfl

/-- Another record's point changes neither what this record's point does nor whether it is taken. -/
theorem handPoint_other {q : RecNo} (h : q ≠ r) :
    (s.handPoint r).pointed q = s.pointed q ∧ ∀ n, (s.handPoint r).entriesOf n q = s.entriesOf n q := by
  obtain ⟨hdef, hexchange, htb, _⟩ := handPoint_frame s r
  have hruntime : (s.handPoint r).runtime q = s.runtime q := by rw [handPoint_runtime, if_neg h]
  have htakes : (s.handPoint r).takesPoint = s.takesPoint := by
    funext d
    rw [State.takesPoint, State.takesPoint, hexchange, htb]
  constructor
  · simp only [State.pointed, hdef, htb, hruntime, htakes]
  · simp only [State.entriesOf, hdef, htb, hruntime, htakes, implies_true]

end OnePoint

/-- The points of several records, in their order: each is the one of the state the tick found. -/
theorem handPoints_runtime {rs : List RecNo} (hdistinct : rs.Nodup) (s : State) (q : RecNo) :
    (rs.foldl State.handPoint s).runtime q = if q ∈ rs then s.pointed q else s.runtime q := by
  induction rs generalizing s with
  | nil => rfl
  | cons r rs ih =>
    obtain ⟨hnew, hrest⟩ := List.nodup_cons.mp hdistinct
    rw [List.foldl_cons, ih hrest, handPoint_runtime]
    by_cases hq : q = r
    · subst hq
      simp [hnew]
    · rw [if_neg hq, (handPoint_other s r hq).1]
      simp [hq]

theorem handPoints_port {rs : List RecNo} (hdistinct : rs.Nodup) (s : State) (n : Port) (ht : s.TableOk) :
    (rs.foldl State.handPoint s).port n = (rs.flatMap (s.entriesOf n)).foldl PortState.accept (s.port n) := by
  induction rs generalizing s with
  | nil => rfl
  | cons r rs ih =>
    obtain ⟨hnew, hrest⟩ := List.nodup_cons.mp hdistinct
    have ht' : (s.handPoint r).TableOk := by
      have hshadow : (s.handPoint r).shadow = s.shadow := by
        unfold State.handPoint
        split <;> simp
      obtain ⟨_, _, _, hactive⟩ := handPoint_frame s r
      rw [State.TableOk, hactive, hshadow]
      exact ht
    have hentries : rs.flatMap ((s.handPoint r).entriesOf n) = rs.flatMap (s.entriesOf n) :=
      List.flatMap_congr fun q hq => (handPoint_other s r fun e => hnew (e ▸ hq)).2 n
    rw [List.foldl_cons, ih hrest _ ht', hentries, handPoint_port s r n ht, List.flatMap_cons, List.foldl_append]

theorem handTick_eq (tb : Timebase) :
    tb.handTick = { tb with
      tickCount := if tb.tickHanded = true then tb.tickCount + 1 else tb.tickCount, tickHanded := true,
      syncOutAge := if tb.tickHanded = true ∧ tb.syncOut = true then tb.syncOutAge + 1 else tb.syncOutAge } := by
  unfold Timebase.handTick Timebase.countTick
  by_cases h : tb.tickHanded = true
  · simp [h]
  · simp [h]

/-- Settles O41: the Timebase by when a tick is due, the runtimes and the queues by the points in record order. -/
theorem tickTakesSelectedPoints : Obligations.TickTakesSelectedPoints := by
  unfold Obligations.TickTakesSelectedPoints
  refine ⟨fun s hl => ?time, fun s hl hrun hdue hrecords => ?tick⟩
  case time =>
    have hiff : s.live = true ∧ s.nextTickDue = true ↔ s.tb.running = true ∧ s.tb.tickHanded = true
        ∧ s.tb.tickCount + 1 < s.active.header.cycleTicks ∧ s.missedDue = false
        ∧ (s.tb.syncOut = true → s.tb.syncOutAge < 7) := by
      rw [nextTickDue_iff, and_iff_right hl, and_iff_right hl]
    rw [passTime_tb]
    exact if_congr hiff rfl rfl
  case tick =>
    intro k taken
    obtain ⟨htable, _⟩ := hrecords
    have hdue' : (s.counting && !s.tb.tickHanded || s.nextTickDue) = true := by
      rcases hdue with hfirst | ⟨hnext, hmissed, hpulse⟩
      · rw [State.counting, hl, hrun, hfirst]
        rfl
      · cases hhanded : s.tb.tickHanded with
        | false =>
          rw [State.counting, hl, hrun]
          rfl
        | true => rw [(nextTickDue_iff s).mpr ⟨hl, hrun, hhanded, hnext, hmissed, hpulse⟩, Bool.or_true]
    have hexec : exec .tick s = .next (s.setTb s.tb.handTick).takePoints := by
      change ifDue (s.counting && !s.tb.tickHanded || s.nextTickDue) s _ = _
      rw [hdue']
      rfl
    have htakes (d : RecordDef) : (s.setTb s.tb.handTick).takesPoint d = taken d := by
      rw [State.takesPoint, setTb_tb, handTick_eq]
      rfl
    have hcycle : (s.setTb s.tb.handTick).tb.cycleNumber = s.tb.cycleNumber := by rw [setTb_tb, handTick_eq]
    refine ⟨_, hexec, ?_, fun r => ?_, fun n => ?_, ?_⟩
    · obtain ⟨htb, _⟩ := takePoints_sameClock (s.setTb s.tb.handTick)
      rw [htb, setTb_tb, handTick_eq]
    · rw [takePoints_eq, handPoints_runtime (rs := allRecords) (List.nodup_finRange 128), if_pos (mem_allRecords r)]
      simp only [State.pointed, htakes, hcycle, setTb_activeDef, setTb_runtime] <;> rfl
    · rw [takePoints_eq, handPoints_port (rs := allRecords) (List.nodup_finRange 128) (s.setTb s.tb.handTick) n htable]
      refine congrArg (fun f => (allRecords.flatMap f).foldl PortState.accept (s.port n)) (funext fun r => ?_)
      simp only [State.entriesOf, htakes, hcycle, setTb_activeDef, setTb_runtime] <;> rfl
    · apply State.ext <;> simp

end Sys2Proof.Machine

/-! # The Timebase's discipline (R103, R104, R141, R144, R147 to R156) -/

namespace Sys2Proof.Machine

/-! ## Changes of discipline and phase steps (R155, R156) -/

/-- What RUN allows, HOLD allows (R114). -/
theorem allowedIn_hold_of_run {i : Item} (h : i.allowedIn .run = true) : i.allowedIn .hold = true := by
  revert h
  cases i <;> decide

/-- An open ballot's item is allowed in the exchange state (R114, R122). -/
def State.BallotAllowed (s : State) : Prop := ∀ b, s.ballot.current = some b → b.item.allowedIn s.exchange = true

theorem State.BallotOk.allowed {s : State} (h : s.BallotOk) : s.BallotAllowed := fun b hb => (h.1 b hb).1

/-- The state after a change of discipline has been noted. -/
def State.disciplineNoted (s : State) (tb : Timebase) : State :=
  { s with tb := tb }.notedAll (.timebase tb.cycleNumber tb.discipline)

section Discipline

variable {s : State} {tb : Timebase}

theorem changeDiscipline_same (h : tb.discipline = s.tb.discipline) : s.changeDiscipline tb = s.setTb tb := if_pos h

/-- A change is noted, and an entry to SEEK or ACQUIRE then moves RUN and STOPPING (R103, R104, R156). -/
theorem changeDiscipline_of_ne (h : tb.discipline ≠ s.tb.discipline) :
    s.changeDiscipline tb = if tb.discipline = .seek || tb.discipline = .acquire then
      if s.exchange = .run then (s.disciplineNoted tb).changeExchange .hold
      else if s.exchange = .stopping then (s.disciplineNoted tb).enterConfig
      else s.disciplineNoted tb
    else s.disciplineNoted tb := by
  rw [State.changeDiscipline, if_neg h, State.reportDiscipline, timebaseNote_eq]
  rfl

theorem changeDiscipline_aligned (h : tb.discipline ≠ s.tb.discipline) (hseek : tb.discipline ≠ .seek)
    (hacquire : tb.discipline ≠ .acquire) : s.changeDiscipline tb = s.disciplineNoted tb := by
  rw [changeDiscipline_of_ne h, decide_eq_false hseek, decide_eq_false hacquire]
  rfl

section Lost

variable (h : tb.discipline ≠ s.tb.discipline) (hlost : tb.discipline = .seek ∨ tb.discipline = .acquire)
include h hlost

theorem changeDiscipline_lost :
    s.changeDiscipline tb = if s.exchange = .run then (s.disciplineNoted tb).changeExchange .hold
      else if s.exchange = .stopping then (s.disciplineNoted tb).enterConfig else s.disciplineNoted tb := by
  have htrue : (decide (tb.discipline = .seek) || decide (tb.discipline = .acquire)) = true := by simpa using hlost
  rw [changeDiscipline_of_ne h, if_pos htrue]

theorem changeDiscipline_lost_run (hb : s.BallotAllowed) (hx : s.exchange = .run) :
    s.changeDiscipline tb = (s.disciplineNoted tb).movedTo .hold := by
  rw [changeDiscipline_lost h hlost, if_pos hx]
  exact changeExchange_of_allowed _ _ fun b hcurrent => allowedIn_hold_of_run (hx ▸ hb b hcurrent)

theorem changeDiscipline_lost_stopping (hb : s.BallotAllowed) (hx : s.exchange = .stopping) :
    s.changeDiscipline tb = (if s.switchPending = true then (s.disciplineNoted tb).applySwitch
      else s.disciplineNoted tb).movedTo .config := by
  have hrun : s.exchange ≠ .run := by
    rw [hx]
    nofun
  rw [changeDiscipline_lost h hlost, if_neg hrun, if_pos hx]
  have hnone : s.ballot.current = none := by
    cases hcurrent : s.ballot.current with
    | none => rfl
    | some b =>
      have hallowed := hb b hcurrent
      rw [hx, not_allowedIn_stopping] at hallowed
      nomatch hallowed
  refine changeExchange_of_none _ _ ?_
  have hnoted : (s.disciplineNoted tb).ballot.current = none := hnone
  split
  · simpa using hnoted
  · exact hnoted

theorem changeDiscipline_lost_other (hrun : s.exchange ≠ .run) (hstopping : s.exchange ≠ .stopping) :
    s.changeDiscipline tb = s.disciplineNoted tb := by
  rw [changeDiscipline_lost h hlost, if_neg hrun, if_neg hstopping]

end Lost

end Discipline

/-- The state that a phase step hands to the Exchange Controller: the cycle restarts at the pulse, SYNCOUT not driven (R155). -/
def State.restartCycle (x : State) : State :=
  { x with tb := { x.tb with
      tickCount := 0, tickHanded := false, cycleNumber := x.tb.cycleNumber + 1, startCredit := true, nextCredit := false,
      missedMade := false } }

/-- The Timebase as a phase step enters ACQUIRE (R155). -/
def Timebase.enterAcquire (tb : Timebase) : Timebase := { tb with discipline := .acquire, acquireRun := 0, missedRun := 0 }

section PhaseStep

variable {s : State} {tb : Timebase}

theorem nextCycle_of_acquire (u : State) (h : u.tb.discipline = .acquire) : u.setTb (u.tb.nextCycle true) = u.restartCycle := by
  have hdrives : u.tb.discipline.drivesSyncOut = false := by
    rw [h]
    rfl
  rw [Timebase.nextCycle, hdrives, Bool.or_false]
  rfl

theorem acquire_of_movedTo (u : State) (x : ExState) : (u.movedTo x).tb = u.tb ∧ (u.movedTo x).ballot = u.ballot
    ∧ (u.movedTo x).switchPending = u.switchPending ∧ (u.movedTo x).exchange = x := ⟨rfl, rfl, rfl, rfl⟩

/-- The Exchange Controller after the entry to ACQUIRE: RUN has gone to HOLD and STOPPING, its switch applied, to CONFIG; the ballot
and, outside STOPPING, the flag stay, and the discipline is ACQUIRE. -/
theorem changeDiscipline_acquire (hb : s.BallotAllowed) (h : tb.discipline ≠ s.tb.discipline) (hacquire : tb.discipline = .acquire) :
    (s.changeDiscipline tb).tb.discipline = .acquire ∧ (s.changeDiscipline tb).BallotAllowed
      ∧ ((s.changeDiscipline tb).exchange = if s.exchange = .run then .hold
          else if s.exchange = .stopping then .config else s.exchange)
      ∧ (s.changeDiscipline tb).switchPending = (s.switchPending && decide (s.exchange ≠ .stopping)) := by
  have hlost : tb.discipline = .seek ∨ tb.discipline = .acquire := .inr hacquire
  by_cases hrun : s.exchange = .run
  · rw [changeDiscipline_lost_run h hlost hb hrun]
    refine ⟨hacquire, fun b hcurrent => allowedIn_hold_of_run (hrun ▸ hb b hcurrent), ?_, ?_⟩
    · rw [if_pos hrun]
      rfl
    · rw [hrun]
      exact (Bool.and_true _).symm
  · by_cases hstopping : s.exchange = .stopping
    · have hnone (b : OpenBallot) (hcurrent : s.ballot.current = some b) : False := by
        have hallowed := hb b hcurrent
        rw [hstopping, not_allowedIn_stopping] at hallowed
        nomatch hallowed
      have hconfig : (s.disciplineNoted tb).exchange ≠ .config := by
        change s.exchange ≠ .config
        rw [hstopping]
        nofun
      rw [changeDiscipline_lost_stopping h hlost hb hstopping]
      obtain ⟨htb, hballot, hpending, hexchange⟩ := acquire_of_movedTo
        (if s.switchPending = true then (s.disciplineNoted tb).applySwitch else s.disciplineNoted tb) .config
      refine ⟨?_, fun b hcurrent => ?_, ?_, ?_⟩
      · rw [htb]
        split
        · rw [applySwitch_tb _ hconfig]
          exact hacquire
        · exact hacquire
      · rw [hballot] at hcurrent
        have hnoted : (s.disciplineNoted tb).ballot.current = some b := by
          split at hcurrent
          · simpa using hcurrent
          · exact hcurrent
        exact (hnone b hnoted).elim
      · rw [hexchange, if_neg hrun, if_pos hstopping]
      · rw [hpending, hstopping]
        split
        · rw [applySwitch_switchPending, decide_eq_false (fun hne => hne rfl), Bool.and_false]
        · next hflag =>
          rw [decide_eq_false (fun hne => hne rfl), Bool.and_false]
          exact Bool.eq_false_iff.mpr hflag
    · rw [changeDiscipline_lost_other h hlost hrun hstopping, if_neg hrun, if_neg hstopping, decide_eq_true hstopping]
      exact ⟨hacquire, hb, rfl, (Bool.and_true _).symm⟩

/-- The cycle start of a phase step applies a pending switch and moves nothing: in ACQUIRE neither ARMED nor HOLD goes on (R155). -/
theorem cycleStartWork_of_acquire {u : State} (hacquire : u.tb.discipline = .acquire) (hb : u.BallotAllowed)
    (hstopping : u.exchange ≠ .stopping) :
    u.cycleStartWork = if u.switchPending = true
      ∧ (u.exchange = .armed ∨ u.exchange = .run ∨ u.exchange = .hold ∨ u.exchange = .stopping) then u.applySwitch
      else u := by
  have hdiscipline : ¬ (u.tb.discipline = .master ∨ u.tb.discipline = .locked) ∧ u.tb.discipline ≠ .locked := by
    rw [hacquire]
    exact ⟨nofun, nofun⟩
  rw [cycleStartWork_eq hb, if_neg hstopping, if_neg fun h => hdiscipline.1 h.2, if_neg fun h => hdiscipline.2 h.2]

theorem phaseStep_eq (tb : Timebase) (hb : s.BallotAllowed) (h : s.tb.discipline ≠ .acquire) :
    s.phaseStep tb = if s.switchPending = true ∧ (s.exchange = .armed ∨ s.exchange = .run ∨ s.exchange = .hold) then
      (s.changeDiscipline tb.enterAcquire).restartCycle.applySwitch
      else (s.changeDiscipline tb.enterAcquire).restartCycle := by
  obtain ⟨hacquire, hballot, hexchange, hpending⟩ :=
    changeDiscipline_acquire (tb := tb.enterAcquire) hb (fun e => h e.symm) rfl
  have hrestart := nextCycle_of_acquire _ hacquire
  have hx : (s.changeDiscipline tb.enterAcquire).restartCycle.exchange ≠ .stopping := by
    change (s.changeDiscipline tb.enterAcquire).exchange ≠ .stopping
    rw [hexchange]
    split
    · nofun
    · split
      · nofun
      · assumption
  have hwork := cycleStartWork_of_acquire (u := (s.changeDiscipline tb.enterAcquire).restartCycle) hacquire hballot hx
  have hstep : s.phaseStep tb = (s.changeDiscipline tb.enterAcquire).restartCycle.cycleStartWork :=
    congrArg State.cycleStartWork hrestart
  rw [hstep, hwork]
  refine if_congr ?_ rfl rfl
  change (s.changeDiscipline tb.enterAcquire).switchPending = true
      ∧ ((s.changeDiscipline tb.enterAcquire).exchange = .armed ∨ (s.changeDiscipline tb.enterAcquire).exchange = .run
        ∨ (s.changeDiscipline tb.enterAcquire).exchange = .hold
        ∨ (s.changeDiscipline tb.enterAcquire).exchange = .stopping) ↔ _
  rw [hexchange, hpending]
  cases s.exchange <;> simp

end PhaseStep

/-- Settles O46: a change by the state it finds, a phase step by what the entry to ACQUIRE leaves to the cycle start. -/
theorem disciplineChangesAreReported : Obligations.DisciplineChangesAreReported := by
  unfold Obligations.DisciplineChangesAreReported
  refine ⟨fun s tb hballot => ⟨changeDiscipline_same, fun hne => ⟨changeDiscipline_aligned hne, fun hlost =>
    ⟨changeDiscipline_lost_run hne hlost hballot.allowed, fun hx hpending => ?_, fun hx hclear => ?_,
      changeDiscipline_lost_other hne hlost⟩⟩⟩, fun s tb hballot hsame hne => ?step⟩
  · rw [changeDiscipline_lost_stopping hne hlost hballot.allowed hx, if_pos hpending]
    rfl
  · rw [changeDiscipline_lost_stopping hne hlost hballot.allowed hx,
      if_neg (Bool.eq_false_iff.mp hclear)]
    rfl
  case step =>
    intro entered restart
    have hne' : s.tb.discipline ≠ .acquire := hsame ▸ hne
    have hstep := phaseStep_eq tb hballot.allowed hne'
    obtain ⟨_, _, hexchange, _⟩ := changeDiscipline_acquire (tb := tb.enterAcquire) hballot.allowed
      (fun e => hne' e.symm) rfl
    have hafter : (s.phaseStep tb).exchange = (s.changeDiscipline tb.enterAcquire).exchange := by
      rw [hstep]
      split
      · simp [State.restartCycle]
      · rfl
    refine ⟨fun hnot => hstep.trans (if_neg hnot), fun hpending hx => hstep.trans (if_pos ⟨hpending, hx⟩), fun hx => ?_,
      fun hx => ?_⟩
    · rw [hafter, hexchange, if_pos hx]
    · rw [hafter, hexchange, hx]
      rfl

end Sys2Proof.Machine

/-! # Pulses and missed pulses (R144, R147 to R154) -/

namespace Sys2Proof.Machine

/-! ## What a pulse does in each discipline (R147, R150 to R154) -/

/-- The trim after a correction by a gain (R149). -/
def Timebase.trimmed (tb : Timebase) (gain e : Int) : Int := max (-1000) (min 1000 (tb.trim - gain * e))

section Pulse

variable {tb : Timebase} {h : SchedHeader} {e : Int}

/-- A credit changes no other field of the Timebase. -/
theorem credit_fields (tb : Timebase) (e : Int) :
    (tb.credit e).trim = tb.trim ∧ (tb.credit e).acquireRun = tb.acquireRun ∧ (tb.credit e).lockRun = tb.lockRun := by
  unfold Timebase.credit
  split <;> exact ⟨rfl, rfl, rfl⟩

theorem credit_correct (tb : Timebase) (gain e : Int) :
    (tb.credit e).correct gain e = { tb.credit e with trim := tb.trimmed gain e } := by
  obtain ⟨htrim, _⟩ := credit_fields tb e
  rw [Timebase.correct, htrim]
  rfl

theorem pulse_of_seek (hd : tb.discipline = .seek) : tb.pulse h e = .step { tb with lockRun := 0, holdoverCount := 0 } := by
  rw [Timebase.pulse, hd]

/-- A pulse outside SYNC_WIN is spurious (R147). -/
theorem pulse_of_spurious (hseek : tb.discipline ≠ .seek) (hmaster : tb.discipline ≠ .master) (hout : h.syncWin < e.natAbs) :
    tb.pulse h e = .settle { tb with spurious := min 65535 (tb.spurious + 1) } := by
  unfold Timebase.pulse
  cases hd : tb.discipline with
  | master => exact absurd hd hmaster
  | seek => exact absurd hd hseek
  | acquire => exact if_pos hout
  | track => exact if_pos hout
  | locked => exact if_pos hout
  | holdover => exact if_pos hout

section Inside

variable (hin : e.natAbs ≤ h.syncWin)
include hin

theorem pulse_of_acquire (hd : tb.discipline = .acquire) : tb.pulse h e =
    if e.natAbs ≤ h.acqTol then
      if h.nAcq ≤ tb.acquireRun + 1 then
        .settle { tb.credit e with trim := tb.trimmed 8 e, missedRun := 0, acquireRun := tb.acquireRun + 1,
                                   discipline := .track, lockRun := 0 }
      else .settle { tb.credit e with trim := tb.trimmed 8 e, missedRun := 0, acquireRun := tb.acquireRun + 1 }
    else .settle { tb.credit e with trim := tb.trimmed 8 e, missedRun := 0, acquireRun := 0 } := by
  obtain ⟨_, hrun, _⟩ := credit_fields tb e
  rw [Timebase.pulse, hd]
  dsimp only
  rw [if_neg hin.not_gt, Timebase.acquirePulse, credit_correct, hrun]

theorem pulse_of_track (hd : tb.discipline = .track) : tb.pulse h e =
    if e.natAbs ≤ h.lockTol then
      if h.nLock ≤ tb.lockRun + 1 then
        .settle { tb.credit e with trim := tb.trimmed 1 e, lockRun := tb.lockRun + 1, discipline := .locked }
      else .settle { tb.credit e with trim := tb.trimmed 1 e, lockRun := tb.lockRun + 1 }
    else if e.natAbs ≤ h.acqTol then .settle { tb.credit e with trim := tb.trimmed 1 e, lockRun := 0 }
    else .step { tb.credit e with trim := tb.trimmed 1 e } := by
  obtain ⟨_, _, hrun⟩ := credit_fields tb e
  have hnext : (tb.credit e).lockRun + 1 = tb.lockRun + 1 := by rw [hrun]
  rw [Timebase.pulse, hd]
  dsimp only
  rw [if_neg hin.not_gt, Timebase.trackPulse, credit_correct, hnext]

theorem pulse_of_locked (hd : tb.discipline = .locked) : tb.pulse h e =
    if e.natAbs ≤ h.lockTol then .settle { tb.credit e with trim := tb.trimmed 1 e }
    else if e.natAbs ≤ h.acqTol then
      .settle { tb.credit e with trim := tb.trimmed 1 e, discipline := .track, lockRun := 0 }
    else .step { tb.credit e with trim := tb.trimmed 1 e } := by
  rw [Timebase.pulse, hd]
  dsimp only
  rw [if_neg hin.not_gt, Timebase.lockedPulse, credit_correct]

theorem pulse_of_holdover (hd : tb.discipline = .holdover) : tb.pulse h e =
    if e.natAbs ≤ h.acqTol then .settle { tb.credit e with discipline := .track, lockRun := 0 }
    else .step (tb.credit e) := by
  rw [Timebase.pulse, hd]
  exact if_neg hin.not_gt

end Inside

end Pulse

/-! ## SYNC_PULSE -/

section SyncPulse

variable {s : State}

theorem exec_syncPulse (hl : s.live = true) (hrun : s.tb.running = true) (hmode : s.active.header.mode = .follower) :
    exec .syncPulse s = .next s.takePulse := by
  change ifDue (s.counting && decide (s.active.header.mode = .follower)) s _ = _
  rw [State.counting, hl, hrun, decide_eq_true hmode]
  rfl

theorem takePulse_settle {tb : Timebase}
    (h : s.tb.pulse s.active.header (s.tb.phaseError s.active.header.cycleTicks) = .settle tb) :
    s.takePulse = s.changeDiscipline tb := by rw [State.takePulse, h]

theorem takePulse_step {tb : Timebase}
    (h : s.tb.pulse s.active.header (s.tb.phaseError s.active.header.cycleTicks) = .step tb) :
    s.takePulse = s.phaseStep tb := by rw [State.takePulse, h]

end SyncPulse

/-- Settles O47: by the discipline the pulse finds and by the tolerances its phase error meets. -/
theorem pulsesAreJudgedByDiscipline : Obligations.PulsesAreJudgedByDiscipline := by
  unfold Obligations.PulsesAreJudgedByDiscipline
  refine fun s hl hrun => ⟨fun hmode => ?master, fun hmode => ?follower⟩
  case master =>
    have hnot : ¬ s.active.header.mode = .follower := by
      rw [hmode]
      nofun
    change ifDue (s.counting && decide (s.active.header.mode = .follower)) s _ = _
    rw [decide_eq_false hnot, Bool.and_false]
    rfl
  case follower =>
    intro h e near trim
    have hexec := exec_syncPulse hl hrun hmode
    have settles {tb : Timebase} (hp : s.tb.pulse h e = .settle tb) : exec .syncPulse s = .next (s.changeDiscipline tb) := by
      rw [hexec, takePulse_settle hp]
    have steps {tb : Timebase} (hp : s.tb.pulse h e = .step tb) : exec .syncPulse s = .next (s.phaseStep tb) := by
      rw [hexec, takePulse_step hp]
    refine ⟨fun hd => steps (pulse_of_seek hd), fun hseek hmaster hout => ?spurious, fun hin =>
      ⟨fun hd => ?acquire, fun hd => ?track, fun hd => ?locked, fun hd => ?holdover⟩⟩
    case spurious =>
      exact (settles (pulse_of_spurious hseek hmaster hout)).trans
        (congrArg Host.Outcome.next (changeDiscipline_same rfl))
    case acquire =>
      have hpulse := pulse_of_acquire hin hd
      refine ⟨fun hnear hfew => settles ?_, fun hnear hmany => settles ?_, fun hfar => settles ?_⟩
      · rw [hpulse, if_pos hnear, if_neg hfew.not_ge]
        rfl
      · rw [hpulse, if_pos hnear, if_pos hmany]
        rfl
      · rw [hpulse, if_neg hfar.not_ge]
        rfl
    case track =>
      have hpulse := pulse_of_track hin hd
      refine ⟨fun hnear hfew => settles ?_, fun hnear hmany => settles ?_, fun hoff hnear => settles ?_,
        fun hoff hfar => steps ?_⟩
      · rw [hpulse, if_pos hnear, if_neg hfew.not_ge]
        rfl
      · rw [hpulse, if_pos hnear, if_pos hmany]
        rfl
      · rw [hpulse, if_neg hoff.not_ge, if_pos hnear]
        rfl
      · rw [hpulse, if_neg hoff.not_ge, if_neg hfar.not_ge]
        rfl
    case locked =>
      have hpulse := pulse_of_locked hin hd
      refine ⟨fun hnear => settles ?_, fun hoff hnear => settles ?_, fun hoff hfar => steps ?_⟩
      · rw [hpulse, if_pos hnear]
        rfl
      · rw [hpulse, if_neg hoff.not_ge, if_pos hnear]
        rfl
      · rw [hpulse, if_neg hoff.not_ge, if_neg hfar.not_ge]
        rfl
    case holdover =>
      have hpulse := pulse_of_holdover hin hd
      refine ⟨fun hnear => settles ?_, fun hfar => steps ?_⟩
      · rw [hpulse, if_pos hnear]
      · rw [hpulse, if_neg hfar.not_ge]

/-! ## Missed pulses (R148, R151 to R154) -/

theorem checksPulses_iff (d : Discipline) :
    d.checksPulses = true ↔ d = .acquire ∨ d = .track ∨ d = .locked ∨ d = .holdover := by cases d <;> decide

theorem missedDue_iff (s : State) : s.missedDue = true ↔
    s.live = true ∧ s.tb.running = true ∧ s.tb.tickCount = s.active.header.syncWin ∧ s.tb.startCredit = false
      ∧ s.tb.missedMade = false
      ∧ (s.tb.discipline = .acquire ∨ s.tb.discipline = .track ∨ s.tb.discipline = .locked
        ∨ s.tb.discipline = .holdover) := by
  simp only [State.missedDue, State.counting, Bool.and_eq_true, checksPulses_iff, decide_eq_true_eq, Bool.not_eq_true']
  constructor
  · rintro ⟨⟨⟨⟨⟨hl, hrun⟩, hd⟩, htick⟩, hcredit⟩, hmade⟩
    exact ⟨hl, hrun, htick, hcredit, hmade, hd⟩
  · rintro ⟨hl, hrun, htick, hcredit, hmade, hd⟩
    exact ⟨⟨⟨⟨⟨hl, hrun⟩, hd⟩, htick⟩, hcredit⟩, hmade⟩

section Missed

variable {tb : Timebase} (h : SchedHeader)

theorem missed_of_acquire (hd : tb.discipline = .acquire) :
    tb.missed h = if 3 ≤ tb.missedRun + 1 then tb.toSeek else { tb with missedRun := tb.missedRun + 1 } := by
  unfold Timebase.missed
  split
  · rfl
  all_goals next hne => exact absurd (hd.symm.trans hne) nofun

theorem missed_of_track_or_locked (hd : tb.discipline = .track ∨ tb.discipline = .locked) :
    tb.missed h = { tb with discipline := .holdover, holdoverCount := 1 } := by
  unfold Timebase.missed
  rcases hd with hd | hd
  · rw [hd]
  · rw [hd]

theorem missed_of_holdover (hd : tb.discipline = .holdover) :
    tb.missed h = if h.holdoverLimit ≤ tb.holdoverCount + 1 then tb.toSeek
      else { tb with holdoverCount := tb.holdoverCount + 1 } := by
  unfold Timebase.missed
  split
  case h_4 => rfl
  all_goals next hne => exact absurd (hd.symm.trans hne) nofun

end Missed

/-- Settles O48: by the discipline that misses the pulse, and by whether its count has reached the limit. -/
theorem missedPulsesMoveTheDiscipline : Obligations.MissedPulsesMoveTheDiscipline := by
  unfold Obligations.MissedPulsesMoveTheDiscipline
  refine ⟨missedDue_iff, fun s hl hrun htick hcredit hmade => ?_⟩
  intro seek
  have hexec (hd : s.tb.discipline = .acquire ∨ s.tb.discipline = .track ∨ s.tb.discipline = .locked
      ∨ s.tb.discipline = .holdover) {tb : Timebase} (hmissed : s.tb.missed s.active.header = tb) :
      exec .missedPulseEvent s = .next (s.changeDiscipline { tb with missedMade := true }) := by
    change ifDue s.missedDue s _ = _
    rw [(missedDue_iff s).mpr ⟨hl, hrun, htick, hcredit, hmade, hd⟩, hmissed]
    rfl
  refine ⟨fun hd hfew => ?_, fun hd hmany => ?_, fun hd => ?_, fun hd hfew => ?_, fun hd hmany => ?_⟩
  · have hmissed := (missed_of_acquire s.active.header hd).trans (if_neg hfew.not_ge)
    exact (hexec (.inl hd) hmissed).trans (congrArg Host.Outcome.next (changeDiscipline_same rfl))
  · exact hexec (.inl hd) ((missed_of_acquire s.active.header hd).trans (if_pos hmany))
  · refine hexec ?_ (missed_of_track_or_locked s.active.header hd)
    rcases hd with hd | hd
    · exact .inr (.inl hd)
    · exact .inr (.inr (.inl hd))
  · have hmissed := (missed_of_holdover s.active.header hd).trans (if_neg hfew.not_ge)
    exact (hexec (.inr (.inr (.inr hd))) hmissed).trans (congrArg Host.Outcome.next (changeDiscipline_same rfl))
  · exact hexec (.inr (.inr (.inr hd))) ((missed_of_holdover s.active.header hd).trans (if_pos hmany))

end Sys2Proof.Machine

/-! # The maintenance line and the option store (R90, R171 to R183) -/

namespace Sys2Proof.Machine

/-! ## Line events and code entry (R171 to R174) -/

section LineEvents

variable {s : State}

theorem exec_lineBreak (hl : s.live = true) : exec .lineBreak s = .next (s.setMl s.ml.sendBreak) := by
  change ifDue s.live s _ = _
  rw [hl]
  rfl

theorem exec_collision (hl : s.live = true) (h : s.ml.sendsBytes = true ∨ s.ml.parser = .answering) :
    exec .collision s = .next (s.setMl (s.ml.abandon .muted .idle .nothing)) := by
  have hdue : (s.live && (s.ml.sendsBytes || s.ml.parser == .answering)) = true := by
    rw [hl, Bool.true_and, Bool.or_eq_true, beq_iff_eq]
    exact h
  change ifDue (s.live && (s.ml.sendsBytes || s.ml.parser == .answering)) s _ = _
  rw [hdue]
  rfl

theorem exec_framingError (hcan : s.byteCanCome = true) (hparser : s.ml.parser ≠ .answering) :
    exec .framingError s = .next (s.setMl { s.ml with line := .idle, parser := .muted }) := by
  change ifDue (s.byteCanCome && s.ml.parser != .answering) s _ = _
  rw [hcan, bne_iff_ne.mpr hparser]
  rfl

theorem exec_codeByte (b : Byte) (hcan : s.byteCanCome = true) (haccess : s.ml.access = .closed)
    (hparser : s.ml.parser = .idle) : exec (.codeByte b) s = .next (s.setMl (s.ml.keepCode b)) := by
  change ifDue (s.byteCanCome && s.ml.access == .closed && s.ml.parser == .idle) s _ = _
  rw [hcan, haccess, hparser]
  rfl

end LineEvents

/-- The access won is OPEN where the store was unprogrammed or its code bytes match (R174). -/
theorem accessWon_eq (m : MLine) (code : List Byte) :
    m.accessWon code
      = if m.storedCode = none ∨ ∃ c, m.storedCode = some c ∧ c.toList = code then .opened else .limited := by
  unfold MLine.accessWon
  cases m.storedCode with
  | none => exact (if_pos (.inl rfl)).symm
  | some c => simp

/-- Where time takes the line (R171, R172, R174). -/
theorem sendOn_line (m : MLine) : m.sendOn.line = match m.line, m.sent with
    | .echoing, .echo _ | .echoing, .nothing => .idle
    | .echoing, _ => .responding
    | .responding, .ownBreak | .responding, .echoThenBreak _ => .idle
    | x, _ => x := by
  unfold MLine.sendOn
  cases hline : m.line with
  | echoing => cases m.sent <;> rfl
  | responding =>
    cases m.sent with
    | ownBreak => rfl
    | echoThenBreak b => rfl
    | nothing => exact hline
    | echo b => exact hline
    | echoThenResponse b bytes => exact hline
    | response bytes => exact hline
  | idle => exact hline
  | receiving => exact hline

/-- Settles O49: the events by what is due, code entry by the number of bytes kept, time by what is sent. -/
theorem lineEventsAndCodeEntry : Obligations.LineEventsAndCodeEntry := by
  unfold Obligations.LineEventsAndCodeEntry
  refine ⟨fun s hl => ⟨exec_lineBreak hl, fun hsends => ?_, fun hfree hparser => ?_⟩,
    fun s b hl hfree haccess hparser => ?code, fun s hl => ?time⟩
  · refine exec_collision hl ?_
    rcases hsends with h | h | h
    · exact .inl ((sendsBytes_iff s.ml).mpr (.inl h))
    · exact .inr h
    · exact .inl ((sendsBytes_iff s.ml).mpr (.inr h))
  · exact exec_framingError ((byteCanCome_iff s).mpr ⟨hl, hfree⟩) hparser
  case code =>
    rw [exec_codeByte b ((byteCanCome_iff s).mpr ⟨hl, hfree⟩) haccess hparser, MLine.keepCode]
    refine ⟨fun hfew => ?_, fun hseven => ?_⟩
    · rw [if_pos (by omega)]
      rfl
    · rw [if_neg (by omega), accessWon_eq]
      rfl
  case time =>
    rw [passTime_ml, if_pos hl, sendOn_eq, sendOn_line] <;> rfl

/-! ## Commands that read (R176, R177) -/

section Answers

variable {s : State}

/-- The state after a command's last byte is echoed, its response to follow. -/
theorem answerLine_eq (last : Byte) (bytes : List Byte) :
    s.answerLine last bytes = { s with ml := { s.ml with
      parser := .answering, line := .echoing, sent := .echoThenResponse last bytes } } := rfl

/-- The last operand of a command comes to a line that is free, with access and these operands received. -/
theorem lastOperandCanCome_of {code : Byte} {received : List Byte} (hl : s.live = true) (hfree : s.ml.Free)
    (haccess : s.ml.access ≠ .closed) (hparser : s.ml.parser = .operands code received) :
    s.lastOperandCanCome code received = true := by
  rw [State.lastOperandCanCome, (byteCanCome_iff s).mpr ⟨hl, hfree⟩, bne_iff_ne.mpr haccess, hparser, beq_self_eq_true]
  rfl

theorem exec_statusPeek (h : s.codeCanCome = true) :
    exec .statusPeek s = .next (s.answerLine 0x01 (withCheck s.deviceStatusBytes)) := by
  change ifDue s.codeCanCome s _ = _
  rw [h]
  rfl

theorem exec_optionRead (h : s.codeCanCome = true) :
    exec .optionRead s = .next (s.answerLine 0x0C (withCheck (optionReadBytes s.opt))) := by
  change ifDue s.codeCanCome s _ = _
  rw [h]
  rfl

theorem exec_unknownCommand {code : Byte} (h : s.codeCanCome = true) (hcode : commandCodes.contains code = false) :
    exec (.unknownCommand code) s = .next (s.answerLine code (nakResponse .unknown)) := by
  change ifDue (s.codeCanCome && !commandCodes.contains code) s _ = _
  rw [h, hcode]
  rfl

theorem not_command {b : Byte} (h : b ∉ commandCodes) : commandCodes.contains b = false := by
  rw [List.contains_eq_mem]
  exact decide_eq_false h

theorem exec_defPeek (r : Byte) (h : s.lastOperandCanCome 0x02 [] = true) :
    exec (.defPeek r) s = .next (s.answerLine r (s.defPeekResponse r)) := by
  change ifDue (s.lastOperandCanCome 0x02 []) s _ = _
  rw [h]
  rfl

theorem exec_queuePeek (p i : Byte) (h : s.lastOperandCanCome 0x04 [p] = true) :
    exec (.queuePeek p i) s = .next (s.answerLine i (s.queuePeekResponse p i)) := by
  change ifDue (s.lastOperandCanCome 0x04 [p]) s _ = _
  rw [h]
  rfl

/-- The device status, byte by byte (R177, R188). -/
theorem deviceStatusBytes_eq : s.deviceStatusBytes =
    [byteOf (16 * s.exchange.code + s.tb.discipline.code),
     (BitVec.ofInt 16 s.tb.trim).extractLsb' 8 8, (BitVec.ofInt 16 s.tb.trim).extractLsb' 0 8, s.tb.cycleNumber,
     byteOf (s.ml.access.code + (if s.ballot.current = none then 0 else 4)
       + 16 * ((s.ballot.current.map fun b => b.item.code).getD 0) + (if s.switchPending = true then 128 else 0)),
     (match (s.lane lm).hold with | .idle => 0 | .waiting _ => 1 | .staging _ _ => 2 | .fetching _ _ _ => 6),
     (match (s.lane lm).hold with
       | .idle => 0 | .waiting r => byteOf r.val | .staging r _ => byteOf r.val | .fetching r _ _ => byteOf r.val),
     byteOf (s.lane lm).result.code] := by
  unfold State.deviceStatusBytes State.openItem
  dsimp only
  generalize (s.lane lm).hold = hold
  generalize s.ballot.current = ballot
  cases hold <;> cases ballot <;> rfl

theorem optionReadBytes_eq (o : OptionStore) : optionReadBytes o =
    if o.state = .programmed then
      [1, 0, 0, 0, 0, 0, 0, 0, 0, o.image.lineRate, o.image.resetMode, o.image.resetCycleTicks.extractLsb' 8 8,
       o.image.resetCycleTicks.extractLsb' 0 8]
    else List.replicate 13 0 := by
  unfold optionReadBytes
  cases o.state <;> rfl

theorem defPeekResponse_of_range {r : Byte} (h : 128 ≤ r.toNat) : s.defPeekResponse r = statusResponse .range := by
  rw [State.defPeekResponse, recNo?_eq_none h]

theorem defPeekResponse_of_record {r : Byte} {rec : RecNo} (h : r.toNat = rec.val) : s.defPeekResponse r =
    if s.exchange = .init then statusResponse .notReady else okResponse (s.recordBytes .active rec) := by
  rw [State.defPeekResponse, recNo?_of_toNat_eq h]

theorem queuePeekResponse_range {p i : Byte} (haccess : s.ml.access ≠ .limited) (h : 4 ≤ p.toNat ∨ 24 ≤ i.toNat) :
    s.queuePeekResponse p i = statusResponse .range := by
  rw [State.queuePeekResponse, if_neg haccess]
  split
  · exact if_neg (by omega)
  · rfl

theorem queuePeekResponse_entry {p i : Byte} {q : Port} (haccess : s.ml.access ≠ .limited) (hp : p.toNat = q.val)
    (hi : i.toNat < 24) : s.queuePeekResponse p i = okResponse (s.peekEntry q i.toNat) := by
  have hport : (⟨p.toNat, by omega⟩ : Port) = q := Fin.ext hp
  rw [State.queuePeekResponse, if_neg haccess, dif_pos (by omega), if_pos (by omega), hport]

end Answers

/-- Settles O50: each command by its own response. -/
theorem maintenanceReadsAnswer : Obligations.MaintenanceReadsAnswer := by
  unfold Obligations.MaintenanceReadsAnswer
  intro s hl hfree haccess answer
  refine ⟨fun hparser => ?codes, fun r hparser => ?defPeek, fun p i hparser => ?queuePeek⟩
  case codes =>
    have hcan := codeCanCome_of hl hfree hparser haccess
    refine ⟨?_, ?_, fun code hcode => ?_⟩
    · rw [exec_statusPeek hcan, deviceStatusBytes_eq]
      rfl
    · rw [exec_optionRead hcan, optionReadBytes_eq]
      rfl
    · rw [exec_unknownCommand hcan (not_command hcode)]
      rfl
  case defPeek =>
    have hcan := lastOperandCanCome_of hl hfree haccess hparser
    refine ⟨fun hrange => ?_, fun hlt hinit => ?_, fun rec hr hready => ?_⟩
    · rw [exec_defPeek r hcan, defPeekResponse_of_range hrange]
      rfl
    · rw [exec_defPeek r hcan, defPeekResponse_of_record (rec := ⟨r.toNat, hlt⟩) rfl, if_pos hinit]
      rfl
    · rw [exec_defPeek r hcan, defPeekResponse_of_record hr, if_neg hready]
      rfl
  case queuePeek =>
    have hcan := lastOperandCanCome_of hl hfree haccess hparser
    have hopen (h : s.ml.access = .opened) : s.ml.access ≠ .limited := by
      rw [h]
      nofun
    refine ⟨fun hlimited => ?_, fun hopened hrange => ?_, fun q hopened hp hi => ?_⟩
    · rw [exec_queuePeek p i hcan, State.queuePeekResponse, if_pos hlimited]
      rfl
    · rw [exec_queuePeek p i hcan, queuePeekResponse_range (hopen hopened) hrange]
      rfl
    · rw [exec_queuePeek p i hcan, queuePeekResponse_entry (hopen hopened) hp hi, State.peekEntry]
      cases (s.port q).queue[i.toNat]? <;> rfl

/-! ## DATA PEEK (R90, R178) -/

section DataPeek

variable {s : State} {x : Byte}

theorem exec_dataPeek (h : s.lastOperandCanCome 0x03 [] = true) :
    exec (.dataPeek x) s = .next (if s.ml.access = .limited then s.answerLine x (statusResponse .denied)
      else match s.lmRefusal x, recNo? x with
        | some st, _ => s.answerLine x (statusResponse st)
        | none, some rec => s.startPeek rec x
        | none, none => s.answerLine x (statusResponse .undefined)) := by
  change ifDue (s.lastOperandCanCome 0x03 []) s _ = _
  rw [h]
  rfl

theorem exec_dataPeek_refused (h : s.lastOperandCanCome 0x03 [] = true) (haccess : s.ml.access ≠ .limited) {st : MStatus}
    (hst : s.lmRefusal x = some st) : exec (.dataPeek x) s = .next (s.answerLine x (statusResponse st)) := by
  rw [exec_dataPeek h, if_neg haccess, hst]

theorem lmRefusal_init (h : s.exchange = .init) : s.lmRefusal x = some .notReady := if_pos h

section Ready

variable (h : s.exchange ≠ .init)
include h

theorem lmRefusal_busy (hlane : (s.lane lm).hold ≠ .idle) : s.lmRefusal x = some .busy := by
  rw [State.lmRefusal, if_neg h, if_pos hlane]

variable (hlane : (s.lane lm).hold = .idle)
include hlane

theorem lmRefusal_undefined (hnone : ∀ r : RecNo, x.toNat = r.val → s.activeDef r = none) :
    s.lmRefusal x = some .undefined := by
  rw [State.lmRefusal, if_neg h, if_neg (not_not_intro hlane)]
  split
  · rfl
  · next r hr =>
    rw [hnone r (recNo?_toNat hr)]
    rfl

theorem lmRefusal_of_defined {r : RecNo} {d : RecordDef} {rt : Runtime} (hr : x.toNat = r.val)
    (hd : s.activeDef r = some d) (hrt : s.runtime r = some rt) :
    s.lmRefusal x = if rt.version = 0 then some .noData else none := by
  have hdata : s.noData r = decide (rt.version = 0) := by
    rw [State.noData, hrt, Option.any_some, bne, Bool.not_not]
    rfl
  rw [State.lmRefusal, if_neg h, if_neg (not_not_intro hlane), recNo?_of_toNat_eq hr]
  dsimp only
  rw [hd, hdata]
  simp

end Ready

end DataPeek

/-- Settles O51: LM's refusals in their order, then the pin of the PUB buffer. -/
theorem dataPeekFetchesOrIsRefused : Obligations.DataPeekFetchesOrIsRefused := by
  unfold Obligations.DataPeekFetchesOrIsRefused
  intro s x hl hfree hparser answer
  have hcan (haccess : s.ml.access ≠ .closed) := lastOperandCanCome_of hl hfree haccess hparser
  refine ⟨fun hlimited => ?limited, fun hopened => ?opened⟩
  case limited =>
    rw [exec_dataPeek (hcan (by rw [hlimited]; nofun)), if_pos hlimited]
    rfl
  case opened =>
    have hclosed : s.ml.access ≠ .closed := by
      rw [hopened]
      nofun
    have hnot : s.ml.access ≠ .limited := by
      rw [hopened]
      nofun
    have refused {st : MStatus} (hst : s.lmRefusal x = some st) := exec_dataPeek_refused (hcan hclosed) hnot hst
    refine ⟨fun hinit => refused (lmRefusal_init hinit), fun hready hlane => refused (lmRefusal_busy hready hlane),
      fun hready hlane hnone => refused (lmRefusal_undefined hready hlane hnone),
      fun r d rt b hready hlane hr hd hrt => ⟨fun hzero => ?_, fun hversion hok hb => ?_⟩⟩
    · exact refused ((lmRefusal_of_defined hready hlane hr hd hrt).trans (if_pos hzero))
    · have hst := (lmRefusal_of_defined hready hlane hr hd hrt).trans (if_neg hversion)
      rw [exec_dataPeek (hcan hclosed), if_neg hnot, hst, recNo?_of_toNat_eq hr]
      dsimp only
      rw [State.startPeek, hrt, hd]
      dsimp only
      rw [Runtime.pin_eq hok hb, rt.pubBuf_eq b hok hb]
      rfl

/-! ## Responses and operands (R176, R178) -/

section Responses

variable {s : State}

theorem exec_dataPeekResponse (h : s.byteCanCome = true) (hparser : s.ml.parser = .answering) :
    exec .dataPeekResponse s = .next (match s.ml.peekResponse with
      | some bytes => s.setMl (s.ml.startResponse bytes)
      | none => s) := by
  change ifDue (s.byteCanCome && s.ml.parser == .answering && s.ml.peekResponse.isSome) s _ = _
  rw [h, hparser]
  cases s.ml.peekResponse with
  | none => rfl
  | some bytes => rfl

theorem exec_lastResponseByteSent (hl : s.live = true) (hline : s.ml.line ≠ .idle) (hparser : s.ml.parser = .answering)
    (hsent : s.ml.sent.isResponse = true) :
    exec .lastResponseByteSent s = .next (s.setMl { s.ml with line := .idle, parser := .idle, dataPeek := none }) := by
  change ifDue (s.live && s.ml.line != .idle && s.ml.sent.isResponse && s.ml.parser == .answering) s _ = _
  rw [hl, hparser, hsent, bne_iff_ne.mpr hline]
  rfl

/-- A byte that moves the parser is echoed (R176). -/
theorem takeCommandByte_eq {b : Byte} {parser : CmdParser} (hcan : s.byteCanCome = true) (haccess : s.ml.access ≠ .closed)
    (hafter : s.ml.parser.afterByte b = some parser) : takeCommandByte b s = .next (s.setMl (s.ml.echoByte b parser)) := by
  rw [takeCommandByte, hafter, hcan, bne_iff_ne.mpr haccess]
  rfl

theorem exec_mlineCommandByte_idle (b : Byte) (h : s.ml.parser = .idle) : exec (.mlineCommandByte b) s = takeCode b s := by
  change execMlineCommandByte b s = _
  rw [execMlineCommandByte, h]

theorem exec_mlineCommandByte_operands (b : Byte) {code : Byte} {received : List Byte}
    (h : s.ml.parser = .operands code received) : exec (.mlineCommandByte b) s = takeOperand code received b s := by
  change execMlineCommandByte b s = _
  rw [execMlineCommandByte, h]

/-- An operand other than the last moves the parser. -/
theorem exec_operand {b code : Byte} {received : List Byte} (hcan : s.byteCanCome = true) (haccess : s.ml.access ≠ .closed)
    (hparser : s.ml.parser = .operands code received) (hmore : received.length + 1 < operandCount code) :
    exec (.mlineCommandByte b) s = .next (s.setMl (s.ml.echoByte b (.operands code (received ++ [b])))) := by
  have hafter : s.ml.parser.afterByte b = some (.operands code (received ++ [b])) := by
    rw [hparser]
    exact if_pos hmore
  rw [exec_mlineCommandByte_operands b hparser, takeOperand, if_pos hmore, takeCommandByte_eq hcan haccess hafter]

/-- A code with operands moves the parser. -/
theorem exec_code {b : Byte} (hcan : s.byteCanCome = true) (haccess : s.ml.access ≠ .closed)
    (hparser : s.ml.parser = .idle) (hb : b = 0x02 ∨ b = 0x03 ∨ b = 0x04 ∨ b = 0x0B) :
    exec (.mlineCommandByte b) s = .next (s.setMl (s.ml.echoByte b (.operands b []))) := by
  have hafter : s.ml.parser.afterByte b = some (.operands b []) := by
    rw [hparser]
    rcases hb with rfl | rfl | rfl | rfl <;> rfl
  rw [exec_mlineCommandByte_idle b hparser, ← takeCommandByte_eq hcan haccess hafter]
  rcases hb with rfl | rfl | rfl | rfl <;> rfl

end Responses

/-- A vector is read back from its elements. -/
theorem ofFn_getD_toList (image : Vector Byte 13) : (Vector.ofFn fun i : Fin 13 => image.toList.getD i.val 0) = image := by
  refine Vector.ext fun i hi => ?_
  rw [Vector.getElem_ofFn]
  simp [List.getD_eq_getElem?_getD, hi]

/-- Settles O52: the response by what LM has reported, a byte by the place at which it arrives. -/
theorem responsesAndOperandsMoveTheParser : Obligations.ResponsesAndOperandsMoveTheParser := by
  unfold Obligations.ResponsesAndOperandsMoveTheParser
  refine ⟨fun s hl => ⟨fun d hparser hfree hpeek => ?response, fun hline hparser hsent => ?sent, fun b hfree haccess =>
    ⟨fun hparser hb => ?code, fun received hplace => ?operand⟩⟩, fun s b => ⟨fun hparser => ?command, fun hparser => ?_,
      fun hparser => ?_, fun p hparser => ?_, fun image hparser => ?_⟩⟩
  case response =>
    rw [exec_dataPeekResponse ((byteCanCome_iff s).mpr ⟨hl, hfree⟩) hparser, MLine.peekResponse, hpeek]
    dsimp only
    refine ⟨fun hstatus => ?_, fun hstatus => ?_, fun hstatus => ?_⟩
    · rw [hstatus]
    · rw [hstatus]
      rfl
    · rw [hstatus]
      rfl
  case sent => exact exec_lastResponseByteSent hl hline hparser ((isResponse_iff s.ml.sent).mpr hsent)
  case code => exact exec_code ((byteCanCome_iff s).mpr ⟨hl, hfree⟩) haccess hparser hb
  case operand =>
    have hcan := (byteCanCome_iff s).mpr ⟨hl, hfree⟩
    rcases hplace with ⟨hparser, rfl⟩ | ⟨hparser, hfew⟩
    · exact ⟨0x04, hparser, exec_operand hcan haccess hparser (by decide)⟩
    · have hmore : received.length + 1 < operandCount 0x0B := Nat.add_lt_add_right hfew 1
      exact ⟨0x0B, hparser, exec_operand hcan haccess hparser hmore⟩
  case command =>
    rw [exec_mlineCommandByte_idle b hparser]
    refine ⟨?_, ?_, ?_, fun hb => ?_⟩
    · rintro rfl
      rfl
    · rintro rfl
      rfl
    · rintro rfl
      rfl
    · have hne (k : Byte) (hk : k ∈ commandCodes) : b ≠ k := fun e => hb (e ▸ hk)
      have hcodes : commandCodes.contains b = false := not_command hb
      rw [takeCode, if_neg (hne 0x01 (by decide)), if_neg (hne 0x0A (by decide)), if_neg (hne 0x0C (by decide)), hcodes]
      rfl
  · rw [exec_mlineCommandByte_operands b hparser]
    rfl
  · rw [exec_mlineCommandByte_operands b hparser]
    rfl
  · rw [exec_mlineCommandByte_operands b hparser]
    rfl
  · have hlast : ¬ image.toList.length + 1 < operandCount 0x0B := by
      rw [Vector.length_toList]
      decide
    rw [exec_mlineCommandByte_operands b hparser, takeOperand, if_neg hlast, if_neg (by decide), if_neg (by decide),
      if_neg (by decide), ofFn_getD_toList]
    rfl

/-! ## OPTION WRITE (R179, R181, R183) -/

section OptionWrite

variable {s : State} {image : Vector Byte 13} {check : Byte}

/-- The image that an OPTION WRITE carries, field by field (R181). -/
theorem parseOptionImage_eq (image : Vector Byte 13) : parseOptionImage image =
    { accessCode := #v[image[1], image[2], image[3], image[4], image[5], image[6], image[7], image[8]],
      lineRate := image[9], resetMode := image[10],
      resetCycleTicks := BitVec.ofNat 16 (256 * image[11].toNat + image[12].toNat) } := by
  have hcode : (Vector.ofFn fun i : Fin 8 => image[i.val + 1])
      = #v[image[1], image[2], image[3], image[4], image[5], image[6], image[7], image[8]] := rfl
  have hticks : (image[11] ++ image[12] : BitVec 16) = BitVec.ofNat 16 (256 * image[11].toNat + image[12].toNat) := by
    apply BitVec.eq_of_toNat_eq
    have hhi := image[11].isLt
    have hlo := image[12].isLt
    rw [BitVec.toNat_append, BitVec.toNat_ofNat, ← Nat.shiftLeft_add_eq_or_of_lt hlo, Nat.shiftLeft_eq]
    omega
  rw [parseOptionImage, hcode, hticks]

theorem exec_optionWrite (h : s.lastOperandCanCome 0x0B image.toList = true) :
    exec (.optionWrite image check) s = .next (match s.optionWriteRefusal image check with
      | some st => s.answerLine check (nakResponse st)
      | none => s.startProgramming image check) := by
  change ifDue (s.lastOperandCanCome 0x0B image.toList) s _ = _
  rw [h]
  rfl

theorem exec_optionWrite_refused {st : MStatus} (h : s.lastOperandCanCome 0x0B image.toList = true)
    (hst : s.optionWriteRefusal image check = some st) :
    exec (.optionWrite image check) s = .next (s.answerLine check (nakResponse st)) := by rw [exec_optionWrite h, hst]

theorem exec_programmingComplete (hpower : s.powered = true) (h : s.opt.state = .programming) :
    exec .programmingComplete s = .next s.endProgramming := by
  change ifDue (s.powered && decide (s.opt.state = .programming)) s _ = _
  rw [hpower, decide_eq_true h]
  rfl

end OptionWrite

/-- Settles O53: the checks in their order, the programming, and its end by whether the command is still answered. -/
theorem optionWriteProgramsOnce : Obligations.OptionWriteProgramsOnce := by
  unfold Obligations.OptionWriteProgramsOnce
  refine fun s => ⟨fun image check hl hfree haccess hparser => ?write, fun hpower hprogramming => ?complete⟩
  case write =>
    intro nak
    have hcan := lastOperandCanCome_of hl hfree haccess hparser
    have refused {st : MStatus} (hst : s.optionWriteRefusal image check = some st) := exec_optionWrite_refused hcan hst
    refine ⟨fun hlimited => refused (if_pos hlimited), fun hopened => ?_⟩
    have hnot : s.ml.access ≠ .limited := by
      rw [hopened]
      nofun
    have hchecks : s.optionWriteRefusal image check = if check ≠ crc8 image.toList then some .check
        else if s.exchange ≠ .config then some .wrongState
        else if s.opt.state ≠ .unprogrammed then some .programmed else none := if_neg hnot
    refine ⟨fun hbad => refused (hchecks.trans (if_pos hbad)), fun hgood hstate => refused (st := .wrongState) ?_,
      fun hgood hstate hprogrammed => refused (st := .programmed) ?_, fun hgood hstate hunprogrammed => ?_⟩
    · rw [hchecks, if_neg (not_not_intro hgood), if_pos hstate]
    · rw [hchecks, if_neg (not_not_intro hgood), if_neg (not_not_intro hstate), if_pos hprogrammed]
    · have hnone : s.optionWriteRefusal image check = none := by
        rw [hchecks, if_neg (not_not_intro hgood), if_neg (not_not_intro hstate), if_neg (not_not_intro hunprogrammed)]
      rw [exec_optionWrite hcan, hnone, ← parseOptionImage_eq]
      rfl
  case complete =>
    rw [exec_programmingComplete hpower hprogramming, State.endProgramming]
    refine ⟨fun hawait hanswering => ?_, fun hnot => ?_⟩
    · rw [hawait, hanswering]
      rfl
    · have hfalse : (s.ml.awaitAck && s.ml.parser == .answering) = false := by
        rcases hnot with h | h
        · rw [h]
          rfl
        · rw [beq_eq_false_iff_ne.mpr h, Bool.and_false]
      rw [hfalse]
      rfl

end Sys2Proof.Machine

/-! # What every step keeps of the member set, the maintenance line and the option store (R171, R174, R180 to R183) -/

namespace Sys2Proof.Machine

/-! ## Steady changes -/

/-- A change of the maintenance line that keeps what power-on read, the access once it is won, and the kept code bytes fewer than
eight. -/
structure MLine.Steady (m m' : MLine) : Prop where
  storedCode : m'.storedCode = m.storedCode
  rate : m'.rate = m.rate
  access : m.access ≠ .closed → m'.access = m.access
  kept : m.kept.length < 8 → m'.kept.length < 8

namespace MLine.Steady

theorem refl (m : MLine) : m.Steady m := ⟨rfl, rfl, fun _ => rfl, id⟩

theorem trans {m u m' : MLine} (h : m.Steady u) (k : u.Steady m') : m.Steady m' where
  storedCode := k.storedCode.trans h.storedCode
  rate := k.rate.trans h.rate
  access hopen := (k.access fun e => hopen ((h.access hopen).symm.trans e)).trans (h.access hopen)
  kept hfew := k.kept (h.kept hfew)

/-- Code entry that starts again has kept no byte. -/
theorem of_kept_nil {m m' : MLine} (hcode : m'.storedCode = m.storedCode) (hrate : m'.rate = m.rate)
    (haccess : m'.access = m.access) (hkept : m'.kept = []) : m.Steady m' :=
  ⟨hcode, hrate, fun _ => haccess, fun _ => by rw [hkept]; exact Nat.zero_lt_succ 7⟩

theorem abandon (m : MLine) (parser : CmdParser) (line : LineState) (sent : LineOutput) :
    m.Steady (m.abandon parser line sent) := of_kept_nil rfl rfl rfl rfl

theorem configReport (m : MLine) : m.Steady m.configReport := by
  unfold MLine.configReport
  split
  · exact of_kept_nil rfl rfl rfl rfl
  · exact abandon m _ _ _

/-- A code byte comes in CLOSED access only: the eighth decides the access and none is kept (R174). -/
theorem keepCode {m : MLine} (h : m.access = .closed) (b : Byte) : m.Steady (m.keepCode b) := by
  unfold MLine.keepCode
  split
  · next hfew => exact ⟨rfl, rfl, fun _ => rfl, fun _ => by simpa [MLine.echoByte] using hfew⟩
  · exact ⟨rfl, rfl, fun hopen => absurd h hopen, fun _ => Nat.zero_lt_succ 7⟩

end MLine.Steady

/-- A change that keeps the member set, keeps the maintenance line steady and leaves an option store that is not UNPROGRAMMED. -/
structure State.Steady (s t : State) : Prop where
  members : t.members = s.members
  line : s.ml.Steady t.ml
  opt : s.opt.state ≠ .unprogrammed → t.opt = s.opt

namespace State.Steady

theorem of_frame {s t : State} (hmembers : t.members = s.members) (hml : t.ml = s.ml) (hopt : t.opt = s.opt) : s.Steady t :=
  ⟨hmembers, hml ▸ .refl s.ml, fun _ => hopt⟩

theorem refl (s : State) : s.Steady s := of_frame rfl rfl rfl

theorem trans {s u t : State} (h : s.Steady u) (k : u.Steady t) : s.Steady t where
  members := k.members.trans h.members
  line := h.line.trans k.line
  opt hset := (k.opt fun e => hset ((congrArg OptionStore.state (h.opt hset)).symm.trans e)).trans (h.opt hset)

theorem setMl (s : State) {m : MLine} (h : s.ml.Steady m) : s.Steady (s.setMl m) := ⟨rfl, h, fun _ => rfl⟩

theorem modPort (s : State) (n : Port) (f : PortState → PortState) : s.Steady (s.modPort n f) := of_frame rfl rfl rfl

/-- Changes of the line's reception, transmission or DATA PEEK. -/
theorem setLine (s : State) {m : MLine} (hcode : m.storedCode = s.ml.storedCode) (hrate : m.rate = s.ml.rate)
    (haccess : m.access = s.ml.access) (hkept : m.kept = s.ml.kept) : s.Steady (s.setMl m) :=
  setMl s ⟨hcode, hrate, fun _ => haccess, fun h => by rw [hkept]; exact h⟩

theorem answerLine (s : State) (b : Byte) (bytes : List Byte) : s.Steady (s.answerLine b bytes) := setLine s rfl rfl rfl rfl

theorem reportPeek (s : State) (x : PeekStatus) : s.Steady (s.reportPeek x) := setLine s rfl rfl rfl rfl

/-! ## Operations on lanes, table and exchange -/

theorem completeLane (s : State) (n : Port) : s.Steady (s.completeLane n) := of_frame (by simp) (by simp) (by simp)

theorem completeLm (s : State) : s.Steady s.completeLm := by
  unfold State.completeLm
  split
  · exact (of_frame (t := s.endTransfer lm .ok) (by simp) (by simp) (by simp)).trans
      ((reportPeek _ .completed).trans (of_frame (by simp) (by simp) (by simp)))
  all_goals exact refl s

theorem endIfDone (s : State) (l : LaneNo) : s.Steady (s.endIfDone l) := by
  unfold State.endIfDone
  repeat' split
  · exact completeLane s _
  · exact completeLm s
  · exact refl s

theorem fetchWord (s : State) (l : LaneNo) (r : RecNo) (i : Nat) (b : Buf) (a : Nat) : s.Steady (s.fetchWord l r i b a) := by
  unfold State.fetchWord
  dsimp only
  split
  · exact of_frame rfl rfl rfl
  · exact ⟨rfl, ⟨rfl, rfl, fun _ => rfl, id⟩, fun _ => rfl⟩

theorem startPeek (s : State) (r : RecNo) (operand : Byte) : s.Steady (s.startPeek r operand) := by
  unfold State.startPeek
  split
  · exact ⟨rfl, ⟨rfl, rfl, fun _ => rfl, id⟩, fun _ => rfl⟩
  · exact refl s

theorem abortLanes (s : State) (x : TransferResult) (on : RecNo → Bool) : s.Steady (s.abortLanes x on) := by
  refine ⟨by simp, ?_, fun _ => by simp⟩
  rw [abortLanes_ml]
  split
  · exact ⟨rfl, rfl, fun _ => rfl, id⟩
  · exact .refl _

theorem applySwitch (s : State) : s.Steady s.applySwitch := by
  refine ⟨by simp, ?_, fun _ => by simp⟩
  rw [applySwitch_ml]
  exact ⟨rfl, rfl, fun _ => rfl, id⟩

theorem passClear (s : State) : s.Steady s.passClear :=
  ⟨by simp, by rw [passClear_ml]; exact (abortLanes s _ _).line, fun _ => by simp⟩

theorem resetParts (s : State) : s.Steady s.resetParts :=
  ⟨by simp, ⟨rfl, rfl, fun _ => rfl, id⟩, fun _ => by simp⟩

theorem finishClear (s : State) : s.Steady s.finishClear := by
  unfold State.finishClear
  exact (of_frame (by simp) (by simp) (by simp)).trans (setMl _ (.configReport _))

/-- What a control operation is made of is steady. -/
theorem controlClosed (s : State) : ControlClosed fun t => s.Steady t where
  handAll _ _ _ h := h.trans (of_frame (by simp) (by simp) (by simp))
  setBallot _ _ h := h.trans (of_frame rfl rfl rfl)
  setExchange _ _ h := h.trans (of_frame rfl rfl rfl)
  setTb _ _ h := h.trans (of_frame rfl rfl rfl)
  setFlag _ _ h := h.trans (of_frame rfl rfl rfl)
  applySwitch t h := h.trans (applySwitch t)
  passClear t h := h.trans (passClear t)

theorem resetPort (s : State) (n : Port) : s.Steady (s.resetPort n) := of_frame (by simp) (by simp) (by simp)

theorem freezeExchange (s : State) : s.Steady s.freezeExchange := of_frame (by simp) (by simp) (by simp)

/-- Time moves what the line sends and nothing else that is spoken of here. -/
theorem passTime (s : State) : s.Steady s.passTime := by
  refine ⟨by simp, ?_, fun _ => by simp⟩
  rw [passTime_ml]
  split
  · rw [sendOn_eq]
    exact ⟨rfl, rfl, fun _ => rfl, id⟩
  · exact .refl _

end State.Steady

/-! ## Commands -/

/-- An answer that, where it is a next state, is steady. -/
def Steadily (s : State) (x : Answer) : Prop := ∀ t, x = .next t → s.Steady t

section Commands

variable {s : State}

theorem Steadily.next {t : State} (h : s.Steady t) : Steadily s (.next t) := by
  intro t' e
  cases e
  exact h

theorem Steadily.ifDue {due : Bool} {e : State} (h : due = true → s.Steady e) : Steadily s (ifDue due s e) := by
  cases due
  · exact .next (.refl s)
  · exact .next (h rfl)

theorem Steadily.writeKind {n : Port} {code : Byte} {params after : List Byte} {refusal : Option Result} {e : State}
    (h : s.Steady e) : Steadily s (writeKind s n code params after refusal e) := by
  refine .ifDue fun _ => ?_
  cases refusal with
  | some r => exact .modPort ..
  | none => exact h.trans (.modPort ..)

/-! ### Requests on ports -/

theorem execStatus_steady (n : Port) : Steadily s (execStatus n s) := .ifDue fun _ => .modPort ..

theorem execReadWindow_steady (n : Port) (offset count : Byte) : Steadily s (execReadWindow n offset count s) := by
  refine .ifDue fun _ => ?_
  split
  · exact .modPort ..
  · exact .modPort ..

theorem execTake_steady (n : Port) : Steadily s (execTake n s) := by
  refine .ifDue fun _ => ?_
  split
  · exact .modPort ..
  · exact .modPort ..
  · exact (State.Steady.modPort s n _).trans (.modPort ..)

theorem execReadRecord_steady (n : Port) (record image : Byte) : Steadily s (execReadRecord n record image s) := by
  refine .ifDue fun _ => ?_
  split
  · exact .modPort ..
  · exact .modPort ..
  · exact .modPort ..

theorem execReadHeader_steady (n : Port) (image : Byte) : Steadily s (execReadHeader n image s) := by
  refine .ifDue fun _ => ?_
  split
  · exact .modPort ..
  · exact .modPort ..
  · exact .modPort ..

theorem execReadBallot_steady (n : Port) : Steadily s (execReadBallot n s) := by
  refine .ifDue fun _ => ?_
  split
  · exact .modPort ..
  · exact .modPort ..

theorem execUnknownCode_steady (n : Port) (h : FrameHeader) : Steadily s (execUnknownCode n h s) :=
  .ifDue fun _ => .modPort ..

theorem execHcheckArrival_steady (n : Port) (h : FrameHeader) : Steadily s (execHcheckArrival n h s) := by
  unfold execHcheckArrival
  repeat' split
  · exact .ifDue fun _ => .modPort ..
  · exact execStatus_steady n
  · exact execReadWindow_steady n _ _
  · exact execTake_steady n
  · exact execReadRecord_steady n _ _
  · exact execReadHeader_steady n _
  · exact execReadBallot_steady n
  · exact execUnknownCode_steady n h

theorem execChipSelectAssert_steady (n : Port) : Steadily s (execChipSelectAssert n s) := by
  refine .ifDue fun _ => ?_
  split
  · exact .modPort ..
  · exact .modPort ..

theorem execAcknowledge_steady (n : Port) (causes : Byte) : Steadily s (execAcknowledge n causes s) := by
  refine .writeKind ?_
  split
  · exact .modPort ..
  · exact .refl s

theorem execSetAttention_steady (n : Port) (enables watermark mask : Byte) :
    Steadily s (execSetAttention n enables watermark mask s) := by
  refine .writeKind ?_
  split
  · exact .modPort ..
  · exact .refl s

theorem setShadow_steady (i : Image) : s.Steady (s.setShadow i) := .of_frame rfl rfl rfl

theorem execEditRecord_steady (n : Port) (record : Byte) (payload : Vector Byte 12) (pcheck : Byte) :
    Steadily s (execEditRecord n record payload pcheck s) := by
  refine .writeKind ?_
  split
  · exact setShadow_steady _
  · exact .refl s

theorem execDropRecord_steady (n : Port) (record : Byte) : Steadily s (execDropRecord n record s) := by
  refine .writeKind ?_
  split
  · exact setShadow_steady _
  · exact .refl s

theorem execEditHeader_steady (n : Port) (payload : Vector Byte 16) (pcheck : Byte) :
    Steadily s (execEditHeader n payload pcheck s) := by
  refine .writeKind ?_
  split
  · exact setShadow_steady _
  · exact .refl s

theorem execStage_steady (n : Port) (record : Byte) : Steadily s (execStage n record s) := by
  refine .writeKind ?_
  split
  · exact .of_frame (by simp) (by simp) (by simp)
  · exact .refl s

theorem execFetch_steady (n : Port) (record : Byte) : Steadily s (execFetch n record s) := by
  refine .writeKind ?_
  split
  · exact .of_frame (by simp) (by simp) (by simp)
  · exact .refl s

theorem execVote_steady (n : Port) (item choice : Byte) : Steadily s (execVote n item choice s) := by
  refine .writeKind ?_
  split
  · exact (State.Steady.controlClosed s).takeVote _ _ _ (.refl s)
  · exact .refl s

theorem execPortReset_steady (n : Port) : Steadily s (execPortReset n s) := .writeKind (.resetPort s n)

/-! ### Events -/

theorem execWordAccess_steady : Steadily s (execWordAccess s) := by
  unfold execWordAccess
  split
  · exact .next (.refl s)
  · next l _ =>
    split
    · exact .next (.refl s)
    · next a u ha =>
      have hword : s.Steady u := by
        obtain ⟨_, _, _, _, _, _, _, _, _, _, _, _, rfl⟩ | ⟨r, i, b, _, _, _, _, rfl⟩ := access_cases ha
        · exact .of_frame rfl rfl rfl
        · exact .fetchWord s l r i b a
      split
      · have harbiter : u.Steady (u.setArbiter l) := .of_frame rfl rfl rfl
        exact .next (hword.trans (harbiter.trans (.endIfDone (u.setArbiter l) l)))
      · intro t h
        cases h

theorem execWaitingStageStart_steady (n : Port) : Steadily s (execWaitingStageStart n s) := by
  refine .ifDue fun h => ?_
  obtain ⟨u, hu⟩ := Option.isSome_iff_exists.mp (Bool.and_eq_true_iff.mp h).2
  rw [hu]
  obtain ⟨_, _, _, _, _, _, rfl⟩ := waitingStart_cases hu
  exact .of_frame (by simp) (by simp) (by simp)

theorem execBallotTimerTick_steady : Steadily s (execBallotTimerTick s) := by
  unfold execBallotTimerTick
  split
  · exact .ifDue fun _ => .of_frame rfl rfl rfl
  · exact .next (.refl s)

theorem execBallotExpiry_steady : Steadily s (execBallotExpiry s) := by
  unfold execBallotExpiry
  split
  · exact .ifDue fun _ => .of_frame (by simp) (by simp) (by simp)
  · exact .next (.refl s)

/-! ### The maintenance line -/

/-- A code byte comes in CLOSED access (R174). -/
theorem execCodeByte_steady (b : Byte) : Steadily s (execCodeByte b s) := by
  refine .ifDue fun h => .setMl s (.keepCode ?_ b)
  simp only [Bool.and_eq_true, beq_iff_eq] at h
  exact h.1.2

theorem execStatusPeek_steady : Steadily s (execStatusPeek s) := .ifDue fun _ => .answerLine ..

theorem execDefPeek_steady (r : Byte) : Steadily s (execDefPeek r s) := .ifDue fun _ => .answerLine ..

theorem execQueuePeek_steady (p i : Byte) : Steadily s (execQueuePeek p i s) := .ifDue fun _ => .answerLine ..

theorem execOptionRead_steady : Steadily s (execOptionRead s) := .ifDue fun _ => .answerLine ..

theorem execUnknownCommand_steady (code : Byte) : Steadily s (execUnknownCommand code s) := .ifDue fun _ => .answerLine ..

theorem takeCommandByte_steady (b : Byte) : Steadily s (takeCommandByte b s) := .ifDue fun _ => .setLine s rfl rfl rfl rfl

theorem execFreezeCommand_steady : Steadily s (execFreezeCommand s) := by
  refine .ifDue fun _ => ?_
  repeat' split
  · exact .answerLine ..
  · exact .answerLine ..
  · exact (State.Steady.freezeExchange s).trans (.answerLine ..)

theorem execDataPeek_steady (r : Byte) : Steadily s (execDataPeek r s) := by
  refine .ifDue fun _ => ?_
  repeat' split
  · exact .answerLine ..
  · exact .answerLine ..
  · exact .startPeek ..
  · exact .answerLine ..

/-- Only an UNPROGRAMMED store is programmed (R179). -/
theorem unprogrammed_of_no_refusal {image : Vector Byte 13} {check : Byte} (h : s.optionWriteRefusal image check = none) :
    s.opt.state = .unprogrammed := by
  unfold State.optionWriteRefusal at h
  repeat' split at h
  case isFalse.isFalse.isFalse.isFalse hstate => exact Decidable.not_not.mp hstate
  all_goals nomatch h

theorem execOptionWrite_steady (image : Vector Byte 13) (check : Byte) : Steadily s (execOptionWrite image check s) := by
  refine .ifDue fun _ => ?_
  split
  · exact .answerLine ..
  · next h => exact ⟨rfl, ⟨rfl, rfl, fun _ => rfl, id⟩, fun hset => absurd (unprogrammed_of_no_refusal h) hset⟩

theorem execMlineCommandByte_steady (b : Byte) : Steadily s (execMlineCommandByte b s) := by
  unfold execMlineCommandByte takeCode takeOperand
  repeat' split
  · exact execStatusPeek_steady
  · exact execFreezeCommand_steady
  · exact execOptionRead_steady
  · exact takeCommandByte_steady b
  · exact execUnknownCommand_steady b
  · exact takeCommandByte_steady b
  · exact execDefPeek_steady b
  · exact execDataPeek_steady b
  · exact execQueuePeek_steady _ b
  · exact execOptionWrite_steady _ b
  · exact .next (.refl s)
  · exact .next (.refl s)

end Commands

/-- Every command but POWER_ON and PROGRAMMING_COMPLETE is steady. -/
theorem exec_steady {c : Instr} (s : State) (hon : ∀ memb, c ≠ .powerOn memb) (hend : c ≠ .programmingComplete) :
    Steadily s (exec c s) := by
  have closed := State.Steady.controlClosed s
  cases c with
  | powerOn memb => exact absurd rfl (hon memb)
  | programmingComplete => exact absurd rfl hend
  | resetN => exact .ifDue fun _ => (State.Steady.resetParts s).trans (.of_frame rfl rfl rfl)
  | resetNRelease => exact .ifDue fun _ => .of_frame (by simp) (enterInit_ml _) (by simp)
  | clearDone => exact .ifDue fun _ => .finishClear s
  | chipSelectAssert n => exact execChipSelectAssert_steady n
  | frameDiscard n bytes k => exact .ifDue fun _ => .modPort ..
  | unknownCode n h => exact execUnknownCode_steady n h
  | status n => exact execStatus_steady n
  | readWindow n offset count => exact execReadWindow_steady n offset count
  | take n => exact execTake_steady n
  | readRecord n record image => exact execReadRecord_steady n record image
  | readHeader n image => exact execReadHeader_steady n image
  | readBallot n => exact execReadBallot_steady n
  | writeWindow n offset count payload pcheck => exact .writeKind (.modPort ..)
  | stage n record => exact execStage_steady n record
  | fetch n record => exact execFetch_steady n record
  | acknowledge n causes => exact execAcknowledge_steady n causes
  | setAttention n enables watermark mask => exact execSetAttention_steady n enables watermark mask
  | editRecord n record payload pcheck => exact execEditRecord_steady n record payload pcheck
  | dropRecord n record => exact execDropRecord_steady n record
  | editHeader n payload pcheck => exact execEditHeader_steady n payload pcheck
  | revertShadow n => exact .writeKind (setShadow_steady _)
  | vote n item choice => exact execVote_steady n item choice
  | freeze n => exact .writeKind (.freezeExchange s)
  | portReset n => exact execPortReset_steady n
  | wordAccess => exact execWordAccess_steady
  | stageComplete n => exact .ifDue fun _ => .completeLane s n
  | fetchComplete n => exact .ifDue fun _ => .completeLane s n
  | lmComplete => exact .ifDue fun _ => .completeLm s
  | waitingStageStart n => exact execWaitingStageStart_steady n
  | tick => exact .ifDue fun _ => .of_frame (by simp) (by simp) (by simp)
  | cycleStart => exact .ifDue fun _ => closed.cycleStartWork (closed.setTb _ _ (.refl s))
  | switch => exact .ifDue fun _ => .applySwitch s
  | syncoutPulseEnd => exact .ifDue fun _ => .of_frame rfl rfl rfl
  | syncPulse => exact .ifDue fun _ => closed.takePulse (.refl s)
  | missedPulseEvent => exact .ifDue fun _ => closed.changeDiscipline _ (.refl s)
  | ballotTimerTick => exact execBallotTimerTick_steady
  | ballotExpiry => exact execBallotExpiry_steady
  | lineBreak => exact .ifDue fun _ => .setMl s (.abandon ..)
  | collision => exact .ifDue fun _ => .setMl s (.abandon ..)
  | framingError => exact .ifDue fun _ => .setLine s rfl rfl rfl rfl
  | codeByte b => exact execCodeByte_steady b
  | statusPeek => exact execStatusPeek_steady
  | defPeek r => exact execDefPeek_steady r
  | dataPeek r => exact execDataPeek_steady r
  | dataPeekResponse => exact .ifDue fun _ => .setLine s rfl rfl rfl rfl
  | queuePeek p i => exact execQueuePeek_steady p i
  | freezeCommand => exact execFreezeCommand_steady
  | optionWrite image check => exact execOptionWrite_steady image check
  | optionRead => exact execOptionRead_steady
  | unknownCommand code => exact execUnknownCommand_steady code
  | chipSelectRelease n => exact .ifDue fun _ => .modPort ..
  | hcheckArrival n h => exact execHcheckArrival_steady n h
  | mlineCommandByte b => exact execMlineCommandByte_steady b
  | lastResponseByteSent => exact .ifDue fun _ => .setLine s rfl rfl rfl rfl
  | powerLoss => exact .next (.of_frame rfl rfl rfl)

/-! ## POWER_ON, PROGRAMMING_COMPLETE and steps -/

/-- POWER_ON starts code entry again and leaves a programmed store (R174, R183). -/
theorem powerOn_keeps (s : State) (memb : PortSet) :
    (s.powerUp memb).resetParts.enterInit.ml.kept = []
      ∧ (s.opt.state = .programmed → (s.powerUp memb).resetParts.enterInit.opt = s.opt) := by
  have hopt : (s.powerUp memb).resetParts.enterInit.opt = s.opt.powerUp := by simp [State.powerUp]
  refine ⟨by rw [enterInit_ml]; rfl, fun hstate => ?_⟩
  rw [hopt, OptionStore.powerUp, hstate]
  rfl

/-- The end of a programming leaves the member set, and the line steady (R183). -/
theorem endProgramming_keeps (s : State) : s.endProgramming.members = s.members ∧ s.ml.Steady s.endProgramming.ml := by
  unfold State.endProgramming
  dsimp only
  split
  · exact ⟨rfl, rfl, rfl, fun _ => rfl, id⟩
  · exact ⟨rfl, .refl _⟩

theorem execProgrammingComplete_keeps {s t : State} (h : exec .programmingComplete s = .next t) :
    t.members = s.members ∧ s.ml.Steady t.ml ∧ (s.opt.state = .programmed → t.opt = s.opt) := by
  change ifDue (s.powered && s.opt.state = .programming) s s.endProgramming = .next t at h
  cases hdue : (s.powered && decide (s.opt.state = .programming)) with
  | false =>
    rw [hdue] at h
    cases h
    exact ⟨rfl, .refl _, fun _ => rfl⟩
  | true =>
    rw [hdue] at h
    cases h
    obtain ⟨hmembers, hline⟩ := endProgramming_keeps s
    refine ⟨hmembers, hline, fun hstate => ?_⟩
    rw [hstate, Bool.and_eq_true] at hdue
    nomatch hdue.2

/-- A step with no POWER_ON and no PROGRAMMING_COMPLETE at the head of the queue is steady. -/
theorem step_steady {s t : State} (h : step s = .next t) (hon : ∀ memb, s.pending.head? ≠ some (.powerOn memb))
    (hend : s.pending.head? ≠ some .programmingComplete) : s.Steady t := by
  rcases step_cases s h with ⟨c, rest, hp, hexec⟩ | ⟨_, rfl⟩
  · have hhead : s.pending.head? = some c := by rw [hp]; rfl
    have hqueue : s.Steady { s with pending := rest } := .of_frame rfl rfl rfl
    refine hqueue.trans (exec_steady { s with pending := rest } (fun memb e => ?_) ?_ t hexec)
    · exact hon memb (hhead.trans (congrArg some e))
    · exact fun e => hend (hhead.trans (congrArg some e))
  · exact .passTime s

/-- Settles O54: every command but two is steady, and those two are taken one by one. -/
theorem everyStepKeepsMembersAccessAndOptions : Obligations.EveryStepKeepsMembersAccessAndOptions := by
  unfold Obligations.EveryStepKeepsMembersAccessAndOptions
  intro s t h
  have set_of_programmed (hstate : s.opt.state = .programmed) : s.opt.state ≠ .unprogrammed := by rw [hstate]; nofun
  have set_of_programming (hstate : s.opt.state = .programming) : s.opt.state ≠ .unprogrammed := by rw [hstate]; nofun
  by_cases hon : ∃ memb, s.pending.head? = some (.powerOn memb)
  case pos =>
    obtain ⟨memb, hhead⟩ := hon
    rcases step_cases s h with ⟨c, rest, hp, hexec⟩ | ⟨hp, _⟩
    · rw [hp] at hhead
      cases hhead
      cases hexec
      obtain ⟨hkept, hopt⟩ := powerOn_keeps { s with pending := rest } memb
      refine ⟨fun _ => ?_, hopt, fun hno => absurd (by rw [hp]; rfl) (hno memb)⟩
      rw [hkept]
      exact Nat.zero_lt_succ 7
    · rw [hp] at hhead
      nomatch hhead
  case neg =>
    by_cases hend : s.pending.head? = some .programmingComplete
    case pos =>
      rcases step_cases s h with ⟨c, rest, hp, hexec⟩ | ⟨hp, _⟩
      · rw [hp] at hend
        cases hend
        obtain ⟨hmembers, hline, hopt⟩ := execProgrammingComplete_keeps hexec
        exact ⟨hline.kept, hopt, fun _ => ⟨hmembers, hline.storedCode, hline.rate, hline.access,
          fun _ hno => absurd (by rw [hp]; rfl) hno⟩⟩
      · rw [hp] at hend
        nomatch hend
    case neg =>
      obtain ⟨hmembers, hline, hopt⟩ := step_steady h (fun memb e => hon ⟨memb, e⟩) hend
      exact ⟨hline.kept, fun hstate => hopt (set_of_programmed hstate), fun _ => ⟨hmembers, hline.storedCode, hline.rate,
        hline.access, fun hstate _ => hopt (set_of_programming hstate)⟩⟩

/-! ## The laws right after power-on -/

/-- Both images are the ones that a table reset makes of an unprogrammed option store. -/
theorem reset_image : Image.reset = Image.undefined State.reset.opt.resetHeader := rfl

/-- Settles O60: with one entry in each queue, idle lanes, no record defined and a Timebase that has not run, each law holds. -/
theorem lawsHoldAtReset : Obligations.LawsHoldAtReset := by
  have hport (n : Port) : State.reset.port n = PortState.reset := by simp [State.port, State.reset]
  have hlane (l : LaneNo) : (State.reset.lane l).hold = .idle := by simp [State.lane, State.reset]
  have hclock : State.reset.ClockOk :=
    ⟨.fresh false (resetHeader_inRange State.reset.opt), aligned_of_not_publishing rfl⟩
  refine ⟨fun n => ?_, rfl, recordsOk_of_undefined State.reset.opt reset_image reset_image rfl,
    (transfersOk_iff _).mpr (lanesOk_of_idle hlane reset_image rfl fun n => ?_),
    controlOk_of_undefined _ reset_image reset_image rfl rfl rfl, (clockOk_iff _).mp hclock⟩
  · rw [hport]
    exact ⟨by decide, fun _ => List.countP_le_length, by decide⟩
  · rw [hport]
    nofun

end Sys2Proof.Machine
